-- ==== Sys2Proof/Word.lean ====
section
/-! DEFINITION. The word types of the model: 64-bit register words, 32-bit instruction words, bytes. -/

namespace Sys2Proof

/-- A 64-bit value: MDCR_EL3 (R6), a general-purpose register (R21), the program counter (R22). -/
abbrev Word := BitVec 64

/-- A 32-bit A64 instruction word (R122). -/
abbrev InsnWord := BitVec 32

/-- One byte of the host's instruction memory (R105). -/
abbrev Byte := BitVec 8

/-- An EC syndrome value. The source writes two hexadecimal digits; six bits is R302's width. -/
abbrev EC := BitVec 6

end Sys2Proof
end

