-- ==== Sys2Proof/Syntax.lean ====
section
/-! DEFINITION. The two instructions, and the names the rules speak of: Exception levels, Security
states, register names, the access records of R17, the fields of MDCR_EL3. -/

namespace Sys2Proof

/-- The two accessor instructions (R120). `t` is the 5-bit register number `Rt` (R124); 31 is XZR (R21). -/
inductive Instr where
  /-- `MRS <Xt>, MDCR_EL3` (R140). -/
  | mrs (t : BitVec 5)
  /-- `MSR MDCR_EL3, <Xt>` (R141). -/
  | msr (t : BitVec 5)
  deriving DecidableEq, Repr

/-- Exception levels (R317). -/
inductive EL where
  | EL0 | EL1 | EL2 | EL3
  deriving DecidableEq, Repr, Inhabited

/-- Security states, and the Security attributes of external accesses (R17, R318). -/
inductive SecState where
  | Secure | NonSecure | Realm | Root
  deriving DecidableEq, Repr, Inhabited

/-- Execution state of an accessing instruction (R17). -/
inductive ExecState where
  | AArch64 | AArch32
  deriving DecidableEq, Repr

/-- The kinds of accessing instruction of an access record (R17). -/
inductive AccessInstr where
  | MRS | MSR | SYS | MRC | MCR | MRRC | MCRR | LDC | STC
  deriving DecidableEq, Repr

/-- Every register and System instruction that some rule lists. A lower-case `n` stands where the
source writes `<n>`. `OTHER` is any register no rule lists (R248's IMPLEMENTATION DEFINED ones among them). -/
inductive RegName where
  -- Statistical Profiling (R160, R164, R173, R177, R245)
  | PMBMAR_EL1 | PMBSR_EL1 | PMBSR_EL2 | PMBSR_EL12 | PMBLIMITR_EL1 | PMBPTR_EL1 | PMSCR_EL1 | PMSCR_EL2
  | PMSCR_EL12 | PMSEVFR_EL1 | PMSFCR_EL1 | PMSICR_EL1 | PMSIRR_EL1 | PMSLATFR_EL1 | PMSIDR_EL1
  | PMSNEVFR_EL1 | PMSDSFR_EL1
  -- Trace Buffer (R162, R175, R205)
  | TRBSR_EL1 | TRBSR_EL2 | TRBSR_EL12 | TRBBASER_EL1 | TRBLIMITR_EL1 | TRBMAR_EL1 | TRBPTR_EL1
  | TRBTRG_EL1 | TRBMPAM_EL1
  -- single step from a register, instrumentation trace, snapshots, breakpoint banks (R165 to R171)
  | MDSTEPOP_EL1 | TRCITECR_EL1 | TRCITECR_EL2 | TRCITECR_EL12
  | PMCCNTSVR_EL1 | PMEVCNTSVRn_EL1 | PMSSCR_EL1 | PMICNTSVR_EL1 | MDSELR_EL1
  -- Branch Record Buffer (R180); the last two are System instructions
  | BRBCR_EL1 | BRBCR_EL2 | BRBCR_EL12 | BRBFCR_EL1 | BRBIDR0_EL1 | BRBINFn_EL1 | BRBINFINJ_EL1
  | BRBSRCn_EL1 | BRBSRCINJ_EL1 | BRBTGTn_EL1 | BRBTGTINJ_EL1 | BRBTS_EL1 | BRB_IALL | BRB_INJ
  -- Debug Communication Channel (R202)
  | OSDTRRX_EL1 | OSDTRTX_EL1 | MDCCSR_EL0 | MDCCINT_EL1 | DBGDTR_EL0 | DBGDTRRX_EL0 | DBGDTRTX_EL0
  | DBGDTRRXext | DBGDTRTXext | DBGDSCRint | DBGDCCINT | DBGDTRRXint | DBGDTRTXint
  -- Trace Filter (R221)
  | TRFCR_EL1 | TRFCR_EL2 | TRFCR_EL12 | HTRFCR | TRFCR
  -- powerdown debug registers (R248)
  | OSLAR_EL1 | OSLSR_EL1 | OSDLR_EL1 | DBGPRCR_EL1 | DBGOSLAR | DBGOSLSR | DBGOSDLR | DBGPRCR
  -- debug registers (R252, R253)
  | DBGAUTHSTATUS_EL1 | DBGBCRn_EL1 | DBGBVRn_EL1 | DBGCLAIMCLR_EL1 | DBGCLAIMSET_EL1 | DBGVCR32_EL2
  | DBGWCRn_EL1 | DBGWVRn_EL1 | MDCR_EL2 | MDRAR_EL1 | MDSCR_EL1 | OSECCR_EL1
  | DBGAUTHSTATUS | DBGBCRn | DBGBVRn | DBGBXVRn | DBGCLAIMCLR | DBGCLAIMSET | DBGDEVID | DBGDEVID1
  | DBGDEVID2 | DBGDIDR | DBGDRAR | DBGDSAR | DBGDSCRext | DBGOSECCR | DBGVCR | DBGWCRn | DBGWFAR
  | DBGWVRn | HDCR | SDER
  -- PMU, AArch64 (R212, R255, R257)
  | PMECR_EL1 | PMICFILTR_EL0 | PMICNTR_EL0 | PMUACR_EL1 | PMCCFILTR_EL0 | PMCCNTR_EL0 | PMCNTENCLR_EL0
  | PMCNTENSET_EL0 | PMCR_EL0 | PMEVCNTRn_EL0 | PMEVTYPERn_EL0 | PMINTENCLR_EL1 | PMINTENSET_EL1
  | PMOVSCLR_EL0 | PMOVSSET_EL0 | PMSELR_EL0 | PMSWINC_EL0 | PMUSERENR_EL0 | PMXEVCNTR_EL0
  | PMXEVTYPER_EL0 | PMCEID0_EL0 | PMCEID1_EL0 | PMMIR_EL1 | PMZR_EL0
  -- System PMU (R255)
  | SPMACCESSR_EL1 | SPMACCESSR_EL2 | SPMACCESSR_EL12 | SPMCFGR_EL1 | SPMCGCRn_EL1 | SPMCNTENCLR_EL0
  | SPMCNTENSET_EL0 | SPMCR_EL0 | SPMDEVAFF_EL1 | SPMDEVARCH_EL1 | SPMEVCNTRn_EL0 | SPMEVFILT2Rn_EL0
  | SPMEVFILTRn_EL0 | SPMEVTYPERn_EL0 | SPMIIDR_EL1 | SPMINTENCLR_EL1 | SPMINTENSET_EL1
  | SPMOVSCLR_EL0 | SPMOVSSET_EL0 | SPMSCR_EL1 | SPMSELR_EL0 | SPMZR_EL0
  -- PMU, AArch32 (R257)
  | PMCCFILTR | PMCCNTR | PMCEID0 | PMCEID1 | PMCNTENCLR | PMCNTENSET | PMCR | PMEVCNTRn | PMEVTYPERn
  | PMINTENCLR | PMINTENSET | PMOVSR | PMOVSSET | PMSELR | PMSWINC | PMUSERENR | PMXEVCNTR | PMXEVTYPER
  | PMCEID2 | PMCEID3 | PMMIR
  -- PMU, external view (R212)
  | PMCFGR | PMEVFILT2Rn | PMIIDR | PMCNTEN | PMINTEN | PMOVS | PMCGCR0 | PMPCSCTL
  | OTHER
  deriving DecidableEq, Repr

/-- A register: its name and, for a `<n>` register or `OTHER`, which one. -/
structure SysReg where
  name : RegName
  n : Nat := 0
  deriving DecidableEq, Repr

/-- Is this register one of the listed names, whatever its `<n>`? -/
def SysReg.isIn (r : SysReg) (l : List RegName) : Bool := l.contains r.name

/-- The access record `a` of R17: an access by software to another System register. -/
structure Access where
  state : ExecState
  instr : AccessInstr
  reg : SysReg
  coproc : BitVec 4
  el : EL
  ss : SecState
  halted : Bool
  deriving DecidableEq, Repr

/-- The part of an access record that the accessing instruction itself fixes; `el`, `ss` and `halted`
are those of the PE at the access (R17). -/
structure AccessReq where
  state : ExecState
  instr : AccessInstr
  reg : SysReg
  coproc : BitVec 4 := 0
  deriving DecidableEq, Repr

/-- An external debugger's access record `e` (R17). -/
structure ExtAccess where
  reg : SysReg
  attr : SecState
  deriving DecidableEq, Repr

/-- The 42 named fields of MDCR_EL3 (R28), most significant first. -/
inductive Field where
  | EnPMS4 | TRBEE | PMSEE | EnSTEPOP | ETBAD | EnITE | EPMSSAD | EnPMSS | EBWE | EnPMS3 | PMEE | EnTB2
  | E3BREC | E3BREW | EnPMSN | MPMX | MCCD | SBRBE | PMSSE | MTPME | TDCC | NSTBE | NSTB | SCCD | ETAD
  | EPMAD | EDAD | TTRF | STE | SPME | SDD | SPD32 | NSPB | NSPBE | TDOSA | TDA | EnPM2 | TPM | EDADE
  | ETADE | EPMADE | RLTE
  deriving DecidableEq, Repr

/-- Which range an event counter is in (R178); `MDCR_EL2.HPMN` decides, outside this spec (N11). -/
inductive CounterRange where
  | first | second | other
  deriving DecidableEq, Repr, Inhabited

/-- A performance counter (R178, R319). -/
inductive Counter where
  | PMEVCNTR (n : Nat) | PMICNTR | PMCCNTR
  deriving DecidableEq, Repr

/-- Cause of a buffer management event (R161, R163). -/
inductive EventCause where
  | gpcFaultOtherThanGPF | GPF | externalAbort | other
  deriving DecidableEq, Repr

/-- What the rules ask of a debug exception (R226, R240, N25): the host classifies it. -/
structure DebugExc where
  isSoftware : Bool
  isBreakpointInstruction : Bool
  deriving DecidableEq, Repr

end Sys2Proof
end

