-- ==== Sys2Proof/Config.lean ====
section
/-! DEFINITION. What an implementation fixes (R9, R10, R11) and the free values of the spec's `draw`
(R15). A configuration is plain data; State carries it, so a statement over every state is a statement
over every configuration. -/

namespace Sys2Proof

/-- The 39 feature parameters of R9, named as the source names them; no one implies another (N9). -/
structure Features where
  FEAT_AA64 : Bool
  FEAT_AA32EL1 : Bool
  FEAT_BRBE : Bool
  FEAT_BRBEv1p1 : Bool
  FEAT_Debugv8p2 : Bool
  FEAT_Debugv8p4 : Bool
  FEAT_Debugv8p9 : Bool
  FEAT_DoubleLock : Bool
  FEAT_EBEP : Bool
  FEAT_FGT : Bool
  FEAT_FGWTE3 : Bool
  FEAT_ITE : Bool
  FEAT_MTPMU : Bool
  FEAT_PCSRv8p9 : Bool
  FEAT_PMUv3 : Bool
  FEAT_PMUv3_EXT : Bool
  FEAT_PMUv3_EXT64 : Bool
  FEAT_PMUv3_ICNTR : Bool
  FEAT_PMUv3_SS : Bool
  FEAT_PMUv3p1 : Bool
  FEAT_PMUv3p4 : Bool
  FEAT_PMUv3p5 : Bool
  FEAT_PMUv3p7 : Bool
  FEAT_PMUv3p9 : Bool
  FEAT_RME : Bool
  FEAT_SPE : Bool
  FEAT_SPE_EXC : Bool
  FEAT_SPE_FDS : Bool
  FEAT_SPE_FnE : Bool
  FEAT_SPE_nVM : Bool
  FEAT_SPMU : Bool
  FEAT_SPMU2 : Bool
  FEAT_STEP2 : Bool
  FEAT_TRBE : Bool
  FEAT_TRBE_EXC : Bool
  FEAT_TRBE_EXT : Bool
  FEAT_TRBE_MPAM : Bool
  FEAT_TRC_EXT : Bool
  FEAT_TRF : Bool
  deriving DecidableEq, Repr

/-- What `MRS` returns in a field after a reserved encoding was written to it (R31). -/
inductive ReservedReadback where
  | AsWritten | Any
  deriving DecidableEq, Repr

/-- When a write starts to govern the indirect readers (R108). -/
inductive SyncModel where
  | Immediate | UntilCSE
  deriving DecidableEq, Repr

/-- The CONSTRAINED UNPREDICTABLE choices of a buffer unit whose owner pair is reserved (R207, R246). -/
inductive ReservedOwner where
  | AsDisabled | PickOwner (s : SecState) | DropAndEvent
  deriving DecidableEq, Repr

/-- What `PMEE` makes of PMUIRQ and the PMU Profiling exception (R174). -/
inductive PmeeMode where
  /-- `0b00`: PMUIRQ follows PMU overflow, the exception is disabled. -/
  | irqOnOverflow
  /-- `0b01`: both are controlled by MDCR_EL2.PMEE. -/
  | byEL2
  /-- `0b11`: PMUIRQ is deasserted, the exception is enabled. -/
  | exceptionEnabled
  deriving DecidableEq, Repr, Inhabited

/-- The parameters of the model: R9's features, R10's structural parameters, R11's IMPLEMENTATION
DEFINED and CONSTRAINED UNPREDICTABLE choices and the spec's own model parameters. -/
structure Config extends Features where
  haveEL3 : Bool
  haveEL2 : Bool
  haveSecureState : Bool
  NUM_BREAKPOINTS : Nat
  NUM_WATCHPOINTS : Nat
  MDSELR_RAZWI : Bool
  PMEVFILT2R_IMPLEMENTED : Bool
  PMIIDR_IMPLEMENTED : Bool
  PMSWINC_IN_EXTERNAL_VIEW : Bool
  IMPDEF_EBWE_IS_RES0 : Bool
  IMPDEF_TDA_TRAPS_MDSELR : Bool
  IMPDEF_MTPME_SIBLING_DISABLE : Bool
  IMPDEF_EDAD_AFFECTS_OSLAR : Bool
  IMPDEF_TDOSA_TRAPS_OSDLR : Bool
  /-- `IMPDEF_TDOSA_EXTRA_REGS.a64` (R248). -/
  tdosaExtraA64 : List SysReg
  /-- `IMPDEF_TDOSA_EXTRA_REGS.a32` (R248). -/
  tdosaExtraA32 : List SysReg
  /-- The "trace unit registers" of the external view, an input set (R210, N19). -/
  traceUnitRegs : List SysReg
  /-- The "Trace Buffer registers" of the external view, an input set (R166, N19). -/
  traceBufferRegs : List SysReg
  /-- `ETAD_Affects` (R211), an input set. -/
  etadAffects : List SysReg
  CU_NSTB_RESERVED : ReservedOwner
  CU_NSTB_RESERVED_TRAP : Bool
  CU_NSPB_RESERVED : ReservedOwner
  CU_NSPB_RESERVED_TRAP : Bool
  /-- `SDD_RW_VALUE` (R226, conflict C4): false is 0, the source as written. -/
  SDD_RW_VALUE : Bool
  RES0_STORAGE_MASK : Word
  RESERVED_READBACK : ReservedReadback
  UNKNOWN_STABLE : Bool
  SYNC_MODEL : SyncModel
  deriving DecidableEq, Repr

/-- Free value: the 64-bit draw number `k` of the environment (R15's `draw`): the UNKNOWN bits of a
reset (R342, R343) and the bits read back from a reserved encoding (R31). Log entry 1. -/
opaque Config.freeWord : Nat → Word

/-- Free value: does evaluation number `k` of an indirect reader still see the old register value
(`draw({MDCR_eff, MDCR})`, R108)? Log entry 1. -/
opaque Config.freeSeesOld : Nat → Bool

/-- Free value: which defined behaviour the PMU takes while `PMEE` holds `0b10` (R174, D24). Log entry 1. -/
opaque Config.freePmee : Nat → PmeeMode

/-- Free value: does evaluation `k` treat a reserved `ETBAD` as `0b00` (else as `0b11`) (R166, D23)? Log entry 1. -/
opaque Config.freeEtbadZero : Nat → Bool

/-- Free value: does evaluation `k` treat a reserved `EPMSSAD` as `0b00` (else as `0b11`) (R168, D23)? Log entry 1. -/
opaque Config.freeEpmssadZero : Nat → Bool

/-- Free value: on a PE without EL3 the source gives NSTBE no Effective value (R78, N14): is it 1 in evaluation
`k`? Log entry 28. -/
opaque Config.freeNstbe : Nat → Bool

/-- Free value: on a PE without EL3 the source gives NSPBE no Effective value (R78, N14): is it 1 in evaluation
`k`? Log entry 28. -/
opaque Config.freeNspbe : Nat → Bool

end Sys2Proof
end

