-- ==== Sys2Proof/Machine/Fields.lean ====
section
/-! DEFINITION. The layout of MDCR_EL3: positions, existence, variants, masks, reset classes, reserved
encodings, Effective values without EL3 (10_state.md). -/

namespace Sys2Proof.Machine

/-- The 42 fields, most significant first (R28). -/
def allFields : List Field :=
  [.EnPMS4, .TRBEE, .PMSEE, .EnSTEPOP, .ETBAD, .EnITE, .EPMSSAD, .EnPMSS, .EBWE, .EnPMS3, .PMEE, .EnTB2,
   .E3BREC, .E3BREW, .EnPMSN, .MPMX, .MCCD, .SBRBE, .PMSSE, .MTPME, .TDCC, .NSTBE, .NSTB, .SCCD, .ETAD,
   .EPMAD, .EDAD, .TTRF, .STE, .SPME, .SDD, .SPD32, .NSPB, .NSPBE, .TDOSA, .TDA, .EnPM2, .TPM, .EDADE,
   .ETADE, .EPMADE, .RLTE]

/-- Least significant bit of a field (R28). -/
def fieldLsb : Field → Nat
  | .EnPMS4 => 55
  | .TRBEE => 53
  | .PMSEE => 51
  | .EnSTEPOP => 50
  | .ETBAD => 48
  | .EnITE => 47
  | .EPMSSAD => 45
  | .EnPMSS => 44
  | .EBWE => 43
  | .EnPMS3 => 42
  | .PMEE => 40
  | .EnTB2 => 39
  | .E3BREC => 38
  | .E3BREW => 37
  | .EnPMSN => 36
  | .MPMX => 35
  | .MCCD => 34
  | .SBRBE => 32
  | .PMSSE => 30
  | .MTPME => 28
  | .TDCC => 27
  | .NSTBE => 26
  | .NSTB => 24
  | .SCCD => 23
  | .ETAD => 22
  | .EPMAD => 21
  | .EDAD => 20
  | .TTRF => 19
  | .STE => 18
  | .SPME => 17
  | .SDD => 16
  | .SPD32 => 14
  | .NSPB => 12
  | .NSPBE => 11
  | .TDOSA => 10
  | .TDA => 9
  | .EnPM2 => 7
  | .TPM => 6
  | .EDADE => 4
  | .ETADE => 3
  | .EPMADE => 2
  | .RLTE => 0

/-- Width of a field in bits (R28): ten fields have two bits, the others one. -/
def fieldWidth : Field → Nat
  | .TRBEE => 2
  | .PMSEE => 2
  | .ETBAD => 2
  | .EPMSSAD => 2
  | .PMEE => 2
  | .SBRBE => 2
  | .PMSSE => 2
  | .NSTB => 2
  | .SPD32 => 2
  | .NSPB => 2
  | _ => 1

/-- Most significant bit of a field (R14, R28). -/
def fieldMsb (f : Field) : Nat := fieldLsb f + fieldWidth f - 1

/-- `mask(F) = ((1 << (msb-lsb+1)) - 1) << lsb` (R27). -/
def fieldMask (f : Field) : Word :=
  ((1#64 <<< (fieldMsb f - fieldLsb f + 1)) - 1#64) <<< fieldLsb f

/-- `F(v) = (v & mask(F)) >> lsb` (R27). -/
def fieldOf (f : Field) (v : Word) : Word := (v &&& fieldMask f) >>> fieldLsb f

/-- Is EBWE implemented (R40, R172)? -/
def implEBWE (c : Config) : Bool :=
  c.FEAT_Debugv8p9 &&
    !(decide (c.NUM_BREAKPOINTS ≤ 16) && decide (c.NUM_WATCHPOINTS ≤ 16) && c.MDSELR_RAZWI && c.IMPDEF_EBWE_IS_RES0)

/-- `Impl(cfg, F)`: some variant named `F` is selected (R26, R28, R32 to R73). -/
def impl (c : Config) : Field → Bool
  | .EnPMS4 => c.FEAT_SPE_nVM
  | .TRBEE => c.FEAT_TRBE_EXC
  | .PMSEE => c.FEAT_SPE_EXC
  | .EnSTEPOP => c.FEAT_STEP2
  | .ETBAD => c.FEAT_TRBE_EXT
  | .EnITE => c.FEAT_ITE
  | .EPMSSAD => c.FEAT_PMUv3_SS
  | .EnPMSS => c.FEAT_PMUv3_SS
  | .EBWE => implEBWE c
  | .EnPMS3 => c.FEAT_SPE_FDS
  | .PMEE => c.FEAT_EBEP
  | .EnTB2 => c.FEAT_TRBE_MPAM
  | .E3BREC => c.FEAT_BRBEv1p1
  | .E3BREW => c.FEAT_BRBEv1p1
  | .EnPMSN => c.FEAT_SPE_FnE
  | .MPMX => c.FEAT_PMUv3p7
  | .MCCD => c.FEAT_PMUv3p7
  | .SBRBE => c.FEAT_BRBE
  | .PMSSE => c.FEAT_PMUv3_SS
  | .MTPME => c.FEAT_MTPMU
  | .TDCC => c.FEAT_FGT
  | .NSTBE => c.FEAT_TRBE && c.FEAT_RME
  | .NSTB => c.FEAT_TRBE
  | .SCCD => c.FEAT_PMUv3p5
  | .ETAD => c.FEAT_TRC_EXT && c.FEAT_TRBE
  | .EPMAD => c.FEAT_PMUv3_EXT
  | .EDAD => true
  | .TTRF => c.FEAT_TRF
  | .STE => c.FEAT_TRF && c.haveSecureState
  | .SPME => c.FEAT_PMUv3
  | .SDD => c.haveSecureState
  | .SPD32 => c.FEAT_AA32EL1
  | .NSPB => c.FEAT_SPE
  | .NSPBE => c.FEAT_SPE && c.FEAT_RME
  | .TDOSA => true
  | .TDA => true
  | .EnPM2 => c.FEAT_PMUv3p9 || c.FEAT_SPMU || c.FEAT_EBEP || c.FEAT_PMUv3_SS || c.FEAT_SPMU2
  | .TPM => c.FEAT_PMUv3
  | .EDADE => c.FEAT_RME
  | .ETADE => c.FEAT_RME && c.FEAT_TRC_EXT && c.FEAT_TRBE
  | .EPMADE => c.FEAT_RME && c.FEAT_PMUv3_EXT
  | .RLTE => c.FEAT_RME && c.FEAT_TRF

/-- `Variant(cfg, F)`: the first listed variant whose condition holds, counted from 1; 0 when the field
is RES0 (R26, R28). A field with one variant has variant 1 when it is implemented. -/
def variant (c : Config) (f : Field) : Nat :=
  match f with
  | .NSTB => if c.FEAT_TRBE && c.FEAT_RME then 1 else if c.FEAT_TRBE then 2 else 0
  | .ETAD =>
    if c.FEAT_RME && c.FEAT_TRC_EXT && c.FEAT_TRBE then 1
    else if c.FEAT_TRC_EXT && c.FEAT_TRBE then 2 else 0
  | .EPMAD =>
    if c.FEAT_RME && c.FEAT_PMUv3_EXT then 1
    else if c.FEAT_Debugv8p4 && c.FEAT_PMUv3_EXT then 2
    else if c.FEAT_PMUv3_EXT then 3 else 0
  | .EDAD => if c.FEAT_RME then 1 else if c.FEAT_Debugv8p4 then 2 else if c.FEAT_Debugv8p2 then 3 else 4
  | .SPME =>
    if c.FEAT_PMUv3 && c.FEAT_PMUv3p7 then 1
    else if c.FEAT_PMUv3 && c.FEAT_Debugv8p2 then 2
    else if c.FEAT_PMUv3 then 3 else 0
  | .NSPB => if c.FEAT_SPE && c.FEAT_RME then 1 else if c.FEAT_SPE then 2 else 0
  | .TDOSA => if c.FEAT_DoubleLock then 1 else 2
  | f => if impl c f then 1 else 0

/-- The OR of the masks of the listed fields. -/
def maskOf (fs : List Field) : Word := fs.foldr (fun f m => fieldMask f ||| m) 0#64

/-- `ImplMask(cfg)`: the OR of the masks of the implemented fields (R27). -/
def implMask (c : Config) : Word := maskOf (allFields.filter (impl c))

/-- `Res0Mask(cfg)` (R27). -/
def res0Mask (c : Config) : Word := ~~~(implMask c)

/-- The bits a write stores: implemented fields, and RES0 bits that are storage (R29, R141). -/
def keepMask (c : Config) : Word := implMask c ||| c.RES0_STORAGE_MASK

/-- What a reset does to a field (R75). -/
inductive ResetClass where
  /-- Warm reset to an UNKNOWN value. -/
  | warmUnknown
  /-- Warm reset to zero. -/
  | warmZero
  /-- Reset by a Cold reset only, to this value. -/
  | cold (v : Word)
  deriving DecidableEq, Repr

/-- The reset class of each field (R32 to R73). TRBEE, PMSEE and PMEE take their first branch, since the
register exists only with EL3 (R344). -/
def resetClass : Field → ResetClass
  | .EnPMS4 => .warmUnknown
  | .TRBEE => .warmZero
  | .PMSEE => .warmZero
  | .EnSTEPOP => .warmUnknown
  | .ETBAD => .warmZero
  | .EnITE => .warmUnknown
  | .EPMSSAD => .warmZero
  | .EnPMSS => .warmUnknown
  | .EBWE => .warmZero
  | .EnPMS3 => .warmUnknown
  | .PMEE => .warmZero
  | .EnTB2 => .warmUnknown
  | .E3BREC => .cold 0
  | .E3BREW => .warmZero
  | .EnPMSN => .warmUnknown
  | .MPMX => .warmZero
  | .MCCD => .warmZero
  | .SBRBE => .warmUnknown
  | .PMSSE => .cold 0
  | .MTPME => .cold 1
  | .TDCC => .warmUnknown
  | .NSTBE => .warmUnknown
  | .NSTB => .warmUnknown
  | .SCCD => .warmZero
  | .ETAD => .warmZero
  | .EPMAD => .warmZero
  | .EDAD => .warmZero
  | .TTRF => .warmUnknown
  | .STE => .warmZero
  | .SPME => .warmZero
  | .SDD => .warmUnknown
  | .SPD32 => .warmUnknown
  | .NSPB => .warmUnknown
  | .NSPBE => .warmUnknown
  | .TDOSA => .warmUnknown
  | .TDA => .warmUnknown
  | .EnPM2 => .warmUnknown
  | .TPM => .warmUnknown
  | .EDADE => .warmZero
  | .ETADE => .warmZero
  | .EPMADE => .warmZero
  | .RLTE => .warmZero

/-- Is the field reset only by a Cold reset (R75)? -/
def isCold (f : Field) : Bool :=
  match resetClass f with
  | .cold _ => true
  | .warmUnknown => false
  | .warmZero => false

/-- `AU_MASK` (R75). -/
def auMask : Word := maskOf (allFields.filter fun f => resetClass f == .warmUnknown)

/-- `WARM_ZERO_MASK` (R75). -/
def warmZeroMask : Word := maskOf (allFields.filter fun f => resetClass f == .warmZero)

/-- `COLD_MASK` (R75). -/
def coldMask : Word := maskOf (allFields.filter isCold)

/-- The value a Cold reset puts in one field, in place (0 for a field that is not Cold). -/
def coldFieldValue (f : Field) : Word :=
  match resetClass f with
  | .cold v => v <<< fieldLsb f
  | .warmUnknown => 0#64
  | .warmZero => 0#64

/-- `COLD_VALUE` (R75). -/
def coldValue : Word := allFields.foldr (fun f m => coldFieldValue f ||| m) 0#64

/-- The reserved combinations of an owner pair: `E` the ...E bit, `N` the two-bit field (R203, R243). -/
def pairReserved (c : Config) (E N : Word) : Bool := (E == 1 && N < 2) || (E == 0 && N < 2 && !c.haveSecureState)

/-- `TB_Reserved` (R203, R204): the pair {NSTBE, NSTB} holds a reserved combination. -/
def tbReserved (c : Config) (v : Word) : Bool :=
  variant c .NSTB == 1 && pairReserved c (fieldOf .NSTBE v) (fieldOf .NSTB v)

/-- `PB_Reserved` (R243, R244): the pair {NSPBE, NSPB} holds a reserved combination. -/
def pbReserved (c : Config) (v : Word) : Bool :=
  variant c .NSPB == 1 && pairReserved c (fieldOf .NSPBE v) (fieldOf .NSPB v)

/-- Does the field, in the stored value `v`, hold a reserved encoding (R31)? For the two pairs, both
fields do. -/
def holdsReserved (c : Config) (v : Word) : Field → Bool
  | .PMEE => impl c .PMEE && fieldOf .PMEE v == 2
  | .SPD32 => impl c .SPD32 && fieldOf .SPD32 v == 1
  | .ETBAD => impl c .ETBAD && !c.FEAT_RME && (fieldOf .ETBAD v == 1 || fieldOf .ETBAD v == 2)
  | .EPMSSAD => impl c .EPMSSAD && !c.FEAT_RME && (fieldOf .EPMSSAD v == 1 || fieldOf .EPMSSAD v == 2)
  | .NSTB => tbReserved c v
  | .NSTBE => tbReserved c v
  | .NSPB => pbReserved c v
  | .NSPBE => pbReserved c v
  | _ => false

/-- The bits of every field of `v` that holds a reserved encoding (R31). -/
def reservedMask (c : Config) (v : Word) : Word := maskOf (allFields.filter (holdsReserved c v))

/-- `v` is fully defined: no RES0 bit set, no reserved encoding held (R77). -/
def fullyDefined (c : Config) (v : Word) : Bool := v &&& res0Mask c == 0 && reservedMask c v == 0

/-- `ReservedReadback(u)` with draw number `k` (R141). -/
def reservedReadback (c : Config) (k : Nat) (u : Word) : Word :=
  match c.RESERVED_READBACK with
  | .AsWritten => u
  | .Any => (u &&& ~~~(reservedMask c u)) ||| (Config.freeWord k &&& reservedMask c u)

/-- `WarmReset` of a stored value: `u` the UNKNOWN draw, `r` the draw for RES0 storage (R342). -/
def warmResetBits (c : Config) (u r old : Word) : Word :=
  (old &&& coldMask &&& implMask c) ||| (u &&& auMask &&& implMask c)
    ||| (r &&& c.RES0_STORAGE_MASK &&& ~~~(implMask c))

/-- `ColdReset` of a stored value (R342). -/
def coldResetBits (c : Config) (u r old : Word) : Word :=
  (warmResetBits c u r old &&& ~~~(coldMask &&& implMask c)) ||| (coldValue &&& implMask c)

/-- Does the register exist (R3)? -/
def registerExists (c : Config) : Bool := c.haveEL3 && c.FEAT_AA64

/-- The Effective value the source gives a field on a PE without EL3, by the Effective value `ns` of
SCR_EL3.NS; `none` where it gives none (R78). A field that is RES0 has none: its sentences are those of a
field variant, and without one the Effective value is outside this spec (R33, R54, R172, V10). -/
def effectiveNoEL3 (c : Config) (ns : Bool) (f : Field) : Option Word :=
  let ifSecure (v : Word) : Option Word := if ns then none else some v
  if !impl c f then none else
  match f with
  | .TRBEE => some 1
  | .PMSEE => some 1
  | .ETBAD => some 3
  | .EPMSSAD => some 3
  | .EBWE => some 1
  | .PMEE => some 1
  | .SBRBE => some 3
  | .PMSSE => some 1
  | .NSTB => some (if ns then 3 else 1)
  | .NSPB => some (if ns then 3 else 1)
  | .ETAD => if variant c .ETAD == 2 then ifSecure 1 else none
  | .EPMAD => if variant c .EPMAD == 2 || variant c .EPMAD == 3 then ifSecure 1 else none
  | .EDAD => if variant c .EDAD == 1 then none else ifSecure 1
  | .STE => ifSecure 1
  | .SPME => ifSecure 1
  | .SPD32 => ifSecure 3
  | _ => none

/-! Configurations of the examples (R12). -/

/-- All 39 features at one value. -/
def featuresAll (b : Bool) : Features :=
  { FEAT_AA64 := b, FEAT_AA32EL1 := b, FEAT_BRBE := b, FEAT_BRBEv1p1 := b, FEAT_Debugv8p2 := b,
    FEAT_Debugv8p4 := b, FEAT_Debugv8p9 := b, FEAT_DoubleLock := b, FEAT_EBEP := b, FEAT_FGT := b,
    FEAT_FGWTE3 := b, FEAT_ITE := b, FEAT_MTPMU := b, FEAT_PCSRv8p9 := b, FEAT_PMUv3 := b,
    FEAT_PMUv3_EXT := b, FEAT_PMUv3_EXT64 := b, FEAT_PMUv3_ICNTR := b, FEAT_PMUv3_SS := b,
    FEAT_PMUv3p1 := b, FEAT_PMUv3p4 := b, FEAT_PMUv3p5 := b, FEAT_PMUv3p7 := b, FEAT_PMUv3p9 := b,
    FEAT_RME := b, FEAT_SPE := b, FEAT_SPE_EXC := b, FEAT_SPE_FDS := b, FEAT_SPE_FnE := b,
    FEAT_SPE_nVM := b, FEAT_SPMU := b, FEAT_SPMU2 := b, FEAT_STEP2 := b, FEAT_TRBE := b,
    FEAT_TRBE_EXC := b, FEAT_TRBE_EXT := b, FEAT_TRBE_MPAM := b, FEAT_TRC_EXT := b, FEAT_TRF := b }

/-- `CFG_ALL` (R12): every Boolean parameter of R9 and R10 TRUE, `IMPDEF_EBWE_IS_RES0` FALSE. R12 gives no
other parameter of R11. DESIGN CHOICE (log entry 6): R10's `SecureEL2Enabled`, a run-time environment input, is no
part of a configuration and so not one of those Booleans; the other Boolean `IMPDEF_...` parameters,
`CU_NSTB_RESERVED_TRAP` and `CU_NSPB_RESERVED_TRAP` true, both owner choices `AsDisabled`, register sets empty;
breakpoint and watchpoint counts of 16, so that the row of 95_test_vectors.md 2.2 with `IMPDEF_EBWE_IS_RES0`
holds; for the spec's own model parameters the spec's defaults, `UNKNOWN_STABLE` TRUE. -/
def cfgAll : Config :=
  { featuresAll true with
    haveEL3 := true, haveEL2 := true, haveSecureState := true, NUM_BREAKPOINTS := 16,
    NUM_WATCHPOINTS := 16, MDSELR_RAZWI := true, PMEVFILT2R_IMPLEMENTED := true,
    PMIIDR_IMPLEMENTED := true, PMSWINC_IN_EXTERNAL_VIEW := true, IMPDEF_EBWE_IS_RES0 := false,
    IMPDEF_TDA_TRAPS_MDSELR := true, IMPDEF_MTPME_SIBLING_DISABLE := true,
    IMPDEF_EDAD_AFFECTS_OSLAR := true, IMPDEF_TDOSA_TRAPS_OSDLR := true, tdosaExtraA64 := [],
    tdosaExtraA32 := [], traceUnitRegs := [], traceBufferRegs := [], etadAffects := [],
    CU_NSTB_RESERVED := .AsDisabled, CU_NSTB_RESERVED_TRAP := true, CU_NSPB_RESERVED := .AsDisabled,
    CU_NSPB_RESERVED_TRAP := true, SDD_RW_VALUE := false, RES0_STORAGE_MASK := 0,
    RESERVED_READBACK := .Any, UNKNOWN_STABLE := true, SYNC_MODEL := .UntilCSE }

/-- `CFG_MIN` (R12): EL3, FEAT_AA64 and Secure state, every other Boolean parameter FALSE. DESIGN CHOICE (log
entry 6): that covers R11's Booleans of the implementation, and the spec's own model parameters keep their
defaults, `UNKNOWN_STABLE` TRUE among them; counts, register sets and owner choices as in `CFG_ALL`. -/
def cfgMin : Config :=
  { featuresAll false with
    FEAT_AA64 := true, haveEL3 := true, haveEL2 := false, haveSecureState := true, NUM_BREAKPOINTS := 16,
    NUM_WATCHPOINTS := 16, MDSELR_RAZWI := false, PMEVFILT2R_IMPLEMENTED := false,
    PMIIDR_IMPLEMENTED := false, PMSWINC_IN_EXTERNAL_VIEW := false, IMPDEF_EBWE_IS_RES0 := false,
    IMPDEF_TDA_TRAPS_MDSELR := false, IMPDEF_MTPME_SIBLING_DISABLE := false,
    IMPDEF_EDAD_AFFECTS_OSLAR := false, IMPDEF_TDOSA_TRAPS_OSDLR := false, tdosaExtraA64 := [],
    tdosaExtraA32 := [], traceUnitRegs := [], traceBufferRegs := [], etadAffects := [],
    CU_NSTB_RESERVED := .AsDisabled, CU_NSTB_RESERVED_TRAP := false, CU_NSPB_RESERVED := .AsDisabled,
    CU_NSPB_RESERVED_TRAP := false, SDD_RW_VALUE := false, RES0_STORAGE_MASK := 0,
    RESERVED_READBACK := .Any, UNKNOWN_STABLE := true, SYNC_MODEL := .UntilCSE }

end Sys2Proof.Machine
end

