-- ==== Sys2Proof/Machine/State.lean ====
section
/-! DEFINITION. The state of the machine: MDCR_EL3 and its shadow, the registers the accessors use, the
inputs of R13, the host's pending events, and the model's own bookkeeping. The reasons a step can stop.
The state after reset. -/

namespace Sys2Proof.Machine

/-- The contents of MDCR_EL3, or of its shadow. -/
structure Stored where
  /-- The 64 stored bits (R20). -/
  bits : Word
  /-- Bits that are UNKNOWN since the last reset and not written since (R343). -/
  unknown : Word
  /-- Which draw fixed the behaviour of a reserved `PMEE` while it is held (R174, D24; log entry 20). -/
  choice : Nat
  deriving DecidableEq, Repr

/-- One of TRBSR_EL1, TRBSR_EL2, TRBSR_EL3, by the fields the rules name (R161, R207). -/
structure TrbStatus where
  IRQ : Bool
  S : Bool
  EC : BitVec 6
  BSC : BitVec 6
  /-- The other fields (R207). -/
  rest : Word
  deriving DecidableEq, Repr

/-- One of PMBSR_EL1, PMBSR_EL2, PMBSR_EL3, by the fields the rules name (R163, R246). -/
structure PmbStatus where
  S : Bool
  DL : Bool
  EC : BitVec 6
  BSC : BitVec 6
  /-- The other fields (R246). -/
  rest : Word
  deriving DecidableEq, Repr

/-- What this PE can see of another PE (R201, R321). -/
structure Sibling where
  sameLevel1Affinity : Bool
  MTPME : Bool
  deriving DecidableEq, Repr

/-- Where the host's exception entry continues: Exception level, Security state, address (R314, D10). -/
structure HostEntry where
  target : EL
  ss : SecState
  pc : Word
  deriving DecidableEq, Repr

/-- The inputs: those of R13, R10's run-time `SecureEL2Enabled` (log entry 4) and what single rules name as an input.
Supplied by the host, read by the rules. -/
structure Env where
  /-- The current Security state (R318). -/
  ss : SecState
  /-- The PE is in Debug state. -/
  halted : Bool
  /-- The Effective values of SCR_EL3.NS (R78) and SCR_EL3.RW. -/
  scrNS : Bool
  scrRW : Bool
  scrGPF : Bool
  scrEA : Bool
  /-- PMCR_EL0.DP. -/
  pmcrDP : Bool
  /-- `Range(n)` for n = 0, 1, ... ; a counter beyond the list is in neither range (R178). -/
  ranges : List CounterRange
  /-- PMUIRQ as MDCR_EL2.PMEE makes it (R174, value 0b01). -/
  el2PmuIrq : Bool
  /-- Whether MDCR_EL2.PMEE enables the PMU Profiling exception (R174, value 0b01). -/
  el2PmuException : Bool
  /-- MDCR_EL2.PMSSE (R200). -/
  mdcrEL2Pmsse : Nat
  /-- Stored MDSCR_EL1.EMBWE, MDCR_EL2.EBWE and MDSELR_EL1.BANK (R170). -/
  mdscrEMBWE : Bool
  mdcrEL2EBWE : Bool
  mdselrBANK : Nat
  hcrNV1 : Bool
  hcrE2H : Bool
  trfcrEL1EE : Nat
  trfcrEL2EE : Nat
  pmscrEL1EE : Nat
  pmscrEL2EE : Nat
  trbsr1 : TrbStatus
  trbsr2 : TrbStatus
  trbsr3 : TrbStatus
  pmbsr1 : PmbStatus
  pmbsr2 : PmbStatus
  pmbsr3 : PmbStatus
  /-- SDER32_EL3.SUIDEN. -/
  suiden : Bool
  /-- FGWTE3_EL3.MDCR_EL3 (R304). -/
  fgwte3 : Bool
  /-- TraceBufferEnabled() (R206). -/
  traceBufferEnabled : Bool
  /-- The Trace Buffer Unit is enabled and using Self-hosted mode (R207). -/
  tbuSelfHosted : Bool
  /-- Profiling is enabled (R246). -/
  profilingEnabled : Bool
  secureEL1AArch32 : Bool
  /-- `SecureEL2Enabled`, R10's run-time environment input (R227). -/
  secureEL2Enabled : Bool
  /-- `DebugExcEnabled(Secure EL1)` of R227. -/
  debugExcSecureEL1 : Bool
  /-- ExternalSecureInvasiveDebugEnabled() (R215, R219). -/
  extSecureInvasive : Bool
  /-- ExternalSecureNoninvasiveDebugEnabled() (R225). -/
  extSecureNoninvasive : Bool
  authOverrideSecureTrace : Bool
  authOverrideRealmTrace : Bool
  authSecureEL1Debug : Bool
  /-- "unmasked" for the TRBE and SPE Profiling exceptions (R161, R163, N17). -/
  trbeUnmasked : Bool
  speUnmasked : Bool
  /-- A PMU overflow (R174). -/
  pmuOverflow : Bool
  siblings : List Sibling
  /-- Where the host's exception entry to EL3 continues on `TrapToEL3`, if the host takes it (R314);
  its `target` is not consulted, the target is EL3. -/
  trapEntry : Option HostEntry
  /-- Where the host continues on `Undefined`, if it takes it (R301). -/
  undefinedEntry : Option HostEntry
  deriving DecidableEq, Repr

/-- What the host supplies after a reset (R346, D25). -/
structure ResetSupply where
  x : Vector Word 31
  pc : Word
  el : EL
  ss : SecState
  nzcv : BitVec 4
  deriving DecidableEq, Repr

/-- What the units around the register ask of it. -/
inductive Query where
  /-- Is this external debugger access prohibited (R322)? -/
  | external (e : ExtAccess)
  /-- Is this trace buffer management event recorded in TRBSR_EL3 (R161)? -/
  | trbRecorded (c : EventCause)
  /-- Is this Profiling Buffer management event recorded in PMBSR_EL3 (R163)? -/
  | pmbRecorded (c : EventCause)
  /-- TRBEE's and PMSEE's meaning (R161, R163, R313). -/
  | trbeMode
  | speMode
  /-- The EE fields at EL2 and EL1 that value 0b01 of TRBEE, PMSEE delegates to (R313, R316). -/
  | trbeDelegate
  | speDelegate
  /-- Is a TRBE, SPE Profiling exception taken to EL3 (R161, R163)? -/
  | trbeException
  | speException
  /-- The interrupt request signals (R310 to R312). -/
  | trbIrq
  | pmbIrq
  | pmuIrq
  /-- Is the PMU Profiling exception enabled (R174)? -/
  | pmuException
  /-- HCR_EL2.NV1, HCR_EL2.E2H as they act on accesses to this register (R162, R164). -/
  | nv1For (r : RegName)
  | e2hFor (r : RegName)
  /-- Is the counter kept from counting (R319)? -/
  | counting (c : Counter)
  /-- Capture events (R200). -/
  | capture
  /-- The Effective value of a stored PMEVTYPER<n>_EL0.MT bit (R201). -/
  | mtEffective (stored : Bool)
  /-- Is branch recording prohibited at this Exception level and Security state (R176, R181)? -/
  | branchProhibited (el : EL) (ss : SecState)
  /-- Do NSTB, STE, RLTE prohibit tracing in this state (R203, R222, R261)? -/
  | tracingProhibited (ss : SecState)
  /-- Is profiling disabled in this state (R243)? -/
  | profilingDisabled (ss : SecState)
  /-- What the owner pairs make of the buffer units (R203, R207, R243, R246). -/
  | traceBufferUse
  | profilingBufferUse
  /-- STE and RLTE as the external-trace authentication sees them (R222, R261). -/
  | traceAuthentication
  /-- Does SDD disable this debug exception (R226)? -/
  | sddDisables (x : DebugExc)
  /-- Does SPD32 enable this debug exception from Secure EL1 (R240, R241)? -/
  | spd32Enables (x : DebugExc)
  /-- Debug exceptions from Secure EL0, under SDD's and SPD32's paragraph (R227, R242). -/
  | secureEL0BySDD
  | secureEL0BySPD32
  /-- Is execution from MDSTEPOP_EL1 disabled (R165)? -/
  | stepopDisabled
  /-- Effective MDSCR_EL1.EMBWE, MDCR_EL2.EBWE, MDSELR_EL1.BANK (R170). -/
  | embwe
  | el2Ebwe
  | bank
  /-- What a read of `r.F0` gives, and whether a write of it is ignored (R256). -/
  | f0Read (r : RegName) (stored : Bool)
  | f0WriteIgnored (r : RegName)
  /-- The Effective value of a field, with EL3 and without (R78). -/
  | effective (f : Field)
  deriving DecidableEq, Repr

/-- The meaning of TRBEE and of PMSEE (R161, R163). -/
inductive ExcEnable where
  | Disabled | Delegated | Enabled | TrapAll
  deriving DecidableEq, Repr

/-- The meaning of PMSSE (R200). -/
inductive CaptureEvents where
  | Disabled
  /-- Controlled by MDCR_EL2.PMSSE, whose value is carried along. -/
  | ByMDCR_EL2_PMSSE (v : Nat)
  | EnabledProhibited
  | EnabledAllowed
  deriving DecidableEq, Repr

/-- What an owner pair makes of its buffer unit (R203, R207, R243, R246). -/
inductive BufferUse where
  /-- The unit's owning Security state. -/
  | owner (s : SecState)
  /-- Reserved pair, the unit behaves as if disabled. -/
  | asDisabled
  /-- Reserved pair, data is dropped and an event recorded. -/
  | dropAndEvent
  /-- Reserved pair and the unit is not in use: no stated effect. -/
  | noStatedEffect
  deriving DecidableEq, Repr

/-- What the register announces (R13's outputs). `none` inside an answer: this spec does not say, or the
field is RES0 and the mechanism is not controlled from MDCR_EL3. -/
inductive Answer where
  /-- The access is not trapped by MDCR_EL3 and proceeds under the host's other rules (R305). -/
  | proceeds
  /-- The host takes an exception of higher priority (R309). -/
  | otherException
  /-- An exception was taken to EL3 with this EC (R303). -/
  | trapped (ec : EC)
  /-- The host took over after `Undefined` (R301). -/
  | undefinedTaken
  | bool (b : Bool)
  | maybe (b : Option Bool)
  | mode (m : Option ExcEnable)
  | captureMode (m : Option CaptureEvents)
  | buffer (b : Option BufferUse)
  | twoBools (a : Option Bool) (b : Option Bool)
  | delegate (ee : Option (Nat × Nat))
  | number (n : Nat)
  | value (w : Option Word)
  deriving DecidableEq, Repr

/-- A host event: one thing the world around the register does in one step. -/
inductive HostEvent where
  /-- A Cold reset, a Warm reset (R341, R342). -/
  | coldReset (r : ResetSupply)
  | warmReset (r : ResetSupply)
  /-- A context synchronization event that changes nothing else, such as ISB (R108). -/
  | contextSync
  /-- The host takes an exception (R108, R314), or returns from one (R315). -/
  | exceptionEntry (e : HostEntry)
  | exceptionReturn (e : HostEntry)
  /-- Entry to Debug state, and exit from it, a context synchronization event (R108). -/
  | debugEntry
  | debugExit
  /-- The host's inputs change (R13). A change that ends Debug state is an exit from it (log entry 15). -/
  | inputs (env : Env)
  /-- Another instruction of the host wrote general registers, flags and the pc (R8, R21). -/
  | hostRegisters (x : Vector Word 31) (nzcv : BitVec 4) (pc : Word)
  /-- Software at the current Exception level makes a System register access. `higher` is
  HigherPriorityException(a) (R309), `el2Tdosa` is TrappedBy_EL2_TDOSA(a) (R308). -/
  | access (a : AccessReq) (higher el2Tdosa : Bool)
  /-- A unit asks. -/
  | query (q : Query)
  /-- Trace data, profiling data arrives at its unit; `x` is the Exception level of the status register
  that a DropAndEvent writes (R207, R246, N23). -/
  | traceData (x : EL)
  | profilingData (x : EL)
  deriving DecidableEq, Repr

/-- Host instruction memory: (address, byte) pairs, addresses strictly rising. An unlisted address holds
no value. -/
abbrev Memory := List Host.Cell

/-- The machine. -/
structure State where
  /-- The parameters (R9 to R11). No step changes them. -/
  cfg : Config
  /-- MDCR_EL3 (R20). -/
  mdcr : Stored
  /-- The shadow `MDCR_eff` (R108). -/
  mdcrEff : Stored
  /-- X0 to X30 (R21). -/
  x : Vector Word 31
  /-- The program counter (R22). -/
  pc : Word
  /-- PSTATE.EL (R23). -/
  el : EL
  /-- The condition flags, which no rule reads or writes (R23). -/
  nzcv : BitVec 4
  /-- The inputs (R13). -/
  env : Env
  /-- The host's instruction memory (R105). -/
  mem : Memory
  /-- Pending host events, oldest first. -/
  inbox : List HostEvent
  /-- The last announcement. -/
  answer : Option Answer
  /-- The model's counter of free values. -/
  draws : Nat
  deriving DecidableEq, Repr

/-- Why the machine stops with a fault. -/
inductive Fault where
  /-- `Undefined()` (R301): raised by either accessor below EL3 or when the register does not exist. No
  state has changed. A step ends here only when the host supplies no entry for it
  (`Env.undefinedEntry`). Safe: the spec leaves all that follows to the host. -/
  | undefined
  /-- `TrapToEL3(ec)` (R303): raised by `MSR` under FGWTE3 (R304) and by the trap controls (R305). No
  state has changed. A step ends here only when the host supplies no entry for it (`Env.trapEntry`).
  Safe: the spec leaves vector and saved state to the host. -/
  | trapToEL3 (ec : EC)
  /-- Raised by the fetch when the host's memory holds no instruction at the pc. Safe: the machine stops. -/
  | noInstruction
  deriving DecidableEq, Repr

/-- Why bytes are no instruction of this hardware. -/
inductive DecodeError where
  /-- Fewer than the four bytes of an instruction word (R22). -/
  | truncated
  /-- A word that is neither accessor: outside this spec (R123). -/
  | outsideSpec
  deriving DecidableEq, Repr

/-- Why the model declines to say what happens. -/
inductive Refusal where
  /-- An instruction whose meaning is not written. Raised by a refused arm of `exec` only. Safe. -/
  | notModelled (mnemonic : String)
  /-- An accessor at pc = 0xFFFFFFFFFFFFFFFC, which the spec demands to refuse (R22, D13). Safe. -/
  | pcWrap
  /-- The pc is not 4-byte aligned: the host's matter (R106). Raised by the fetch. Safe. -/
  | misalignedPc
  /-- The bytes at the pc are no accessor: outside this spec (R123). Raised by the fetch. Safe. -/
  | notAnAccessor (e : DecodeError)
  deriving DecidableEq, Repr

/-- The outcome of an instruction or a step (R18). -/
abbrev Out := Host.Outcome State Fault Refusal

/-- An unset TRBSR_ELx, an unset PMBSR_ELx (log entry 4). -/
def trbStatusZero : TrbStatus := { IRQ := false, S := false, EC := 0, BSC := 0, rest := 0 }
def pmbStatusZero : PmbStatus := { S := false, DL := false, EC := 0, BSC := 0, rest := 0 }

/-- The inputs at `State.reset`: every one false, zero, empty or absent, but the Security state, Root
(log entries 3, 4, 16). DESIGN CHOICE (log entries 4 and 6): so is `secureEL2Enabled`, which R10 lists among its
Booleans but calls a run-time environment input; the model reads R12's CFG_ALL as not setting it. -/
def Env.reset : Env :=
  { ss := .Root, halted := false, scrNS := false, scrRW := false, scrGPF := false, scrEA := false, pmcrDP := false,
    ranges := [], el2PmuIrq := false, el2PmuException := false, mdcrEL2Pmsse := 0, mdscrEMBWE := false,
    mdcrEL2EBWE := false, mdselrBANK := 0, hcrNV1 := false, hcrE2H := false, trfcrEL1EE := 0,
    trfcrEL2EE := 0, pmscrEL1EE := 0, pmscrEL2EE := 0, trbsr1 := trbStatusZero, trbsr2 := trbStatusZero,
    trbsr3 := trbStatusZero, pmbsr1 := pmbStatusZero, pmbsr2 := pmbStatusZero, pmbsr3 := pmbStatusZero,
    suiden := false, fgwte3 := false, traceBufferEnabled := false, tbuSelfHosted := false,
    profilingEnabled := false, secureEL1AArch32 := false, secureEL2Enabled := false,
    debugExcSecureEL1 := false, extSecureInvasive := false, extSecureNoninvasive := false,
    authOverrideSecureTrace := false, authOverrideRealmTrace := false, authSecureEL1Debug := false,
    trbeUnmasked := false, speUnmasked := false, pmuOverflow := false, siblings := [], trapEntry := none,
    undefinedEntry := none }

/-- The contents of a register that does not exist: a configuration without it has no MDCR state (R127; log
entry 28). -/
def Stored.absent : Stored := { bits := 0, unknown := 0, choice := 0 }

/-- MDCR_EL3 at `State.reset` under configuration `c`: a Cold reset (R342) whose UNKNOWN draw is 0 (log
entry 5). -/
def Stored.reset (c : Config) : Stored :=
  { bits := coldResetBits c 0 0 0, unknown := auMask &&& implMask c, choice := 0 }

/-- The machine right after a Cold reset, under CFG_ALL (log entry 6). The source gives the fields' reset
values (R75, R342); `x`, `pc`, the flags and the inputs are the model's (log entries 2, 4, 29), EL3 is
R346's (log entry 3). -/
def State.reset : State :=
  { cfg := cfgAll, mdcr := Stored.reset cfgAll, mdcrEff := Stored.reset cfgAll, x := Vector.replicate 31 0,
    pc := 0, el := .EL3, nzcv := 0, env := Env.reset, mem := [], inbox := [], answer := none, draws := 0 }

end Sys2Proof.Machine
end

