-- ==== Sys2Proof/Machine/Ops.lean ====
section
/-! DEFINITION. The operations every meaning is written over: the host's instruction memory, the program
counter, reading and writing MDCR_EL3, the in-force value, raising and taking an exception, returning
from one, context synchronization, reset. -/

namespace Sys2Proof.Machine

/-! ## The host's instruction memory (R105) -/

/-- The byte at `k`; `none` where the memory lists nothing. -/
def Memory.read : Memory → Nat → Option Byte
  | [], _ => none
  | (a, b) :: m, k => if a = k then some b else Memory.read m k

/-- Store the byte `v` at `k`, keeping addresses strictly rising. -/
def Memory.write : Memory → Nat → Byte → Memory
  | [], k, v => [(k, v)]
  | (a, b) :: m, k, v =>
    if k < a then (k, v) :: (a, b) :: m
    else if k = a then (k, v) :: m
    else (a, b) :: Memory.write m k v

/-- The canonical form: addresses below 2^64, strictly rising. An unlisted address holds no value, so no
entry can equal it. -/
def Memory.wf : Memory → Bool
  | [] => true
  | [(a, _)] => decide (a < 2 ^ 64)
  | (a, _) :: (b, c) :: m => decide (a < b) && Memory.wf ((b, c) :: m)

/-- Store bytes at `pc`, `pc + 1`, ... -/
def Memory.writeBytes : Memory → Word → List Byte → Memory
  | m, _, [] => m
  | m, pc, b :: bs => Memory.writeBytes (Memory.write m pc.toNat b) (pc + 1) bs

/-- The `n` bytes at `pc`, `pc + 1`, ...; `none` where one is unlisted. -/
def Memory.readBytes (m : Memory) (pc : Word) : Nat → Option (List Byte)
  | 0 => some []
  | n + 1 =>
    match Memory.read m pc.toNat, Memory.readBytes m (pc + 1) n with
    | some b, some bs => some (b :: bs)
    | _, _ => none

/-! ## Free values -/

/-- Use up one draw number (log entry 1). -/
def State.draw (s : State) : State := { s with draws := s.draws + 1 }

/-! ## Completing an accessor (R22, R145) -/

/-- The address at which an accessor is refused: `pc + 4` would wrap (R22). -/
def pcTop : Word := 0xFFFFFFFFFFFFFFFC

/-- `pc <- pc + 4` (R22), and one draw number used up. -/
def State.complete (s : State) : State := { s.draw with pc := s.pc + 4 }

/-! ## MDCR_EL3 -/

/-- A stored value as one read sees it: with `UNKNOWN_STABLE` false, bits that are still UNKNOWN are drawn
again at each read (R343). -/
def State.seen (s : State) (m : Stored) : Word :=
  if s.cfg.UNKNOWN_STABLE then m.bits
  else (m.bits &&& ~~~m.unknown) ||| (Config.freeWord s.draws &&& m.unknown)

/-- The direct read of MDCR_EL3 by `MRS` (R109, R140): always the stored value, never the shadow. -/
def State.readMDCR (s : State) : Word := s.seen s.mdcr

/-- The value a write of `v` stores: RES0 bits dropped (R29), reserved encodings redrawn under
`RESERVED_READBACK = Any` (R31, R141). -/
def storedBits (c : Config) (k : Nat) (v : Word) : Word := reservedReadback c k (v &&& keepMask c)

/-- The draw that fixes a reserved PMEE's behaviour: kept while PMEE goes on holding 0b10, else this
write's own (R174, D24; log entry 20). -/
def nextChoice (old : Stored) (k : Nat) (bits : Word) : Nat :=
  if fieldOf .PMEE old.bits == 2 && fieldOf .PMEE bits == 2 then old.choice else k

/-- The direct write of MDCR_EL3 by `MSR` (R141). The shadow is not written (R108). -/
def State.writeMDCR (s : State) (v : Word) : State :=
  { s with mdcr := { bits := storedBits s.cfg s.draws v, unknown := 0,
                     choice := nextChoice s.mdcr s.draws (storedBits s.cfg s.draws v) } }

/-- A context synchronization event: `MDCR_eff <- MDCR` (R108). -/
def State.contextSync (s : State) : State := { s with mdcrEff := s.mdcr }

/-- The host's inputs become `env`. Leaving Debug state is a context synchronization event however the host
says it (R108; log entry 15). -/
def State.setInputs (s : State) (env : Env) : State :=
  { (if s.env.halted && !env.halted then s.contextSync else s) with env := env }

/-- The stored value an indirect reader uses in this evaluation: MDCR under `Immediate`, else a draw of
the shadow and MDCR, the whole register at once (R108). -/
def State.inForce (s : State) : Stored :=
  match s.cfg.SYNC_MODEL with
  | .Immediate => s.mdcr
  | .UntilCSE => if Config.freeSeesOld s.draws then s.mdcrEff else s.mdcr

/-! ## Exceptions (R301, R303, R314, R315)

The source gives an exception's target level and EC and nothing of its entry (R8 (c), N26): no vector, no
saved state. An instruction that raises one ends in the fault outcome with no state changed (R15, R18).
The event then goes to the host's `TakeException` (D10), whose answers are the inputs `trapEntry` and
`undefinedEntry`; where the host supplies one, the machine goes on as R314's contract says. -/

/-- `raise Undefined()` (R15, R301). -/
def raiseUndefined : Out := .fault .undefined

/-- `raise TrapToEL3(ec)` (R15, R303). -/
def raiseTrapToEL3 (ec : EC) : Out := .fault (.trapToEL3 ec)

/-- The host's exception entry: Exception level, Security state and pc are the host's; `MDCR` and `x` are
unchanged; the entry is a context synchronization event (R108, R314). -/
def State.enterException (s : State) (e : HostEntry) : State :=
  { s.contextSync with el := e.target, env := { s.env with ss := e.ss }, pc := e.pc }

/-- The host's exception return, a context synchronization event (R315). -/
def State.returnException (s : State) (e : HostEntry) : State :=
  { s.contextSync with el := e.target, env := { s.env with ss := e.ss }, pc := e.pc }

/-- The host takes `TrapToEL3(ec)`: the entry's level is EL3 whatever the host's record says (R303 (b),
R314); the EC is announced. -/
def State.takeTrapToEL3 (s : State) (ec : EC) (e : HostEntry) : State :=
  { s.enterException { e with target := .EL3 } with answer := some (.trapped ec) }

/-- The host takes over after `Undefined`: level and address are its own (R301). -/
def State.takeUndefined (s : State) (e : HostEntry) : State :=
  { s.enterException e with answer := some .undefinedTaken }

/-- Hand the outcome of an instruction run in state `s` to the host's `TakeException` (D10). -/
def State.handOver (s : State) (o : Out) : Out :=
  match o with
  | .fault .undefined =>
    match s.env.undefinedEntry with
    | some e => .next (s.takeUndefined e)
    | none => .fault .undefined
  | .fault (.trapToEL3 ec) =>
    match s.env.trapEntry with
    | some e => .next (s.takeTrapToEL3 ec e)
    | none => .fault (.trapToEL3 ec)
  | o => o

/-! ## Reset (R341, R342) -/

/-- The content of MDCR_EL3 after a reset that leaves `bits`: the UNKNOWN fields are those of AU_MASK. Where
the register does not exist there is nothing to reset (R127). -/
def resetStored (c : Config) (k : Nat) (bits : Word) : Stored :=
  if registerExists c then { bits := bits, unknown := auMask &&& implMask c, choice := k } else .absent

/-- The registers the host supplies after a reset (R346); two draw numbers were used. -/
def State.afterReset (s : State) (r : ResetSupply) (m : Stored) : State :=
  { s with mdcr := m, mdcrEff := m, x := r.x, pc := r.pc, el := r.el, nzcv := r.nzcv,
           env := { s.env with ss := r.ss }, draws := s.draws + 2 }

/-- `WarmReset` (R342): the Cold-reset fields keep their values. -/
def State.warmReset (s : State) (r : ResetSupply) : State :=
  s.afterReset r (resetStored s.cfg s.draws
    (warmResetBits s.cfg (Config.freeWord s.draws) (Config.freeWord (s.draws + 1)) s.mdcr.bits))

/-- `ColdReset` (R342). -/
def State.coldReset (s : State) (r : ResetSupply) : State :=
  s.afterReset r (resetStored s.cfg s.draws
    (coldResetBits s.cfg (Config.freeWord s.draws) (Config.freeWord (s.draws + 1)) s.mdcr.bits))

end Sys2Proof.Machine
end

