-- ==== Sys2Proof/Machine/Flags.lean ====
section
/-! DEFINITION. The process state the accessors test: `PSTATE.EL` and nothing else (R23, R147). The
hardware computes no flag (R23, R144): the condition flags stand in State only to be left alone. -/

namespace Sys2Proof.Machine

/-- `PSTATE.EL == EL3` (R140, R141). -/
def State.atEL3 (s : State) : Bool := s.el == .EL3

/-- The accessors' checks in the source's order (R140, R141): absence of the register is tested before
the Exception level; either failing makes the instruction UNDEFINED (R125). -/
def State.accessorDefined (s : State) : Bool := registerExists s.cfg && s.atEL3

/-- FGWTE3 locks the register against writes (R304). -/
def State.writeLocked (s : State) : Bool := s.cfg.FEAT_FGWTE3 && s.env.fgwte3

end Sys2Proof.Machine
end

