-- ==== Sys2Proof/Machine/Operands.lean ====
section
/-! DEFINITION. The one operand form: `<Xt>`, the source's `X{64}(t)` (R21, R124). -/

namespace Sys2Proof.Machine

/-- `x[t]` as a source: register 31 is XZR and reads 0 (R21). -/
def State.readX (s : State) (t : BitVec 5) : Word :=
  if h : t.toNat < 31 then s.x[t.toNat] else 0

/-- `x[t] <- v`: a write to register 31 is discarded (R21). -/
def State.writeX (s : State) (t : BitVec 5) (v : Word) : State :=
  if h : t.toNat < 31 then { s with x := s.x.set t.toNat v } else s

end Sys2Proof.Machine
end

