-- ==== Sys2Proof/Machine/Accessors.lean ====
section
/-! DEFINITION. The two accessor instructions (40_sysreg_access.md). -/

namespace Sys2Proof.Machine

/-- `MRS <Xt>, MDCR_EL3` (R140). The refusal at the top of the address space comes first: R22 refuses the
step itself (log entry 10). -/
def execMrs (t : BitVec 5) (s : State) : Out :=
  if s.pc = pcTop then .refused .pcWrap
  else if s.accessorDefined then .next (s.writeX t s.readMDCR).complete
  else raiseUndefined

/-- `MSR MDCR_EL3, <Xt>` (R141). The FGWTE3 lock is tested after the Exception level (R304). -/
def execMsr (t : BitVec 5) (s : State) : Out :=
  if s.pc = pcTop then .refused .pcWrap
  else if s.accessorDefined then
    if s.writeLocked then raiseTrapToEL3 0x18
    else .next (s.writeMDCR (s.readX t)).complete
  else raiseUndefined

end Sys2Proof.Machine
end

