-- ==== Sys2Proof/Machine/View.lean ====
section
/-! DEFINITION. What an indirect reader sees of MDCR_EL3 in one evaluation, and the reading of fields. -/

namespace Sys2Proof.Machine

/-- One evaluation's view: the parameters, the inputs, PSTATE.EL, the 64 bits in force, and the numbers of
the free values the evaluation may use. -/
structure View where
  cfg : Config
  env : Env
  el : EL
  /-- The register value in force (R108). -/
  bits : Word
  /-- The draw of a reserved PMEE's behaviour (R174). -/
  choice : Nat
  /-- This evaluation's draw number. -/
  k : Nat
  deriving DecidableEq, Repr

/-- The view of an indirect reader in state `s` (R108, R343). -/
def State.view (s : State) : View :=
  { cfg := s.cfg, env := s.env, el := s.el, bits := s.seen s.inForce, choice := s.inForce.choice,
    k := s.draws }

/-- The value a field acts with: of the register in force, where the register exists and the field is
implemented, whatever RES0 storage holds (R26, R29); on a PE without EL3, the Effective value the source gives,
if it gives one (R78). With EL3 but without FEAT_AA64 there is neither register nor Effective value (R127). -/
def View.value (w : View) (f : Field) : Option Word :=
  if registerExists w.cfg then (if impl w.cfg f then some (fieldOf f w.bits) else none)
  else if w.cfg.haveEL3 then none
  else effectiveNoEL3 w.cfg w.env.scrNS f

/-- Does the field act at all? -/
def View.has (w : View) (f : Field) : Bool := (w.value f).isSome

/-- The value of a field, 0 for one that does not act: a RES0 bit reads as 0 and has no effect (R29). It is read of a
field that acts, or beside one of a register that exists, never for a missing Effective value (N14). -/
def View.fld (w : View) (f : Field) : Word := (w.value f).getD 0

/-- The field acts, with value `n`. -/
def View.holds (w : View) (f : Field) (n : Word) : Bool := w.has f && w.fld f == n

/-- A one-bit control that is implemented and 1. -/
def View.isSet (w : View) (f : Field) : Bool := w.holds f 1

/-- A one-bit control that is implemented and 0. -/
def View.isClear (w : View) (f : Field) : Bool := w.holds f 0

/-- The E bit of an owner pair: the field's value, and 0 where it is RES0 (R204, R244). On a PE without EL3 an
implemented one has no Effective value, and none may be assumed (R78, N14): it is then the free value `drawn` (log
entry 28). -/
def View.ownerBit (w : View) (f : Field) (drawn : Bool) : Word :=
  match w.value f with
  | some v => v
  | none => if impl w.cfg f && drawn then 1 else 0

/-- NSTBE as it acts beside NSTB. -/
def View.nstbe (w : View) : Word := w.ownerBit .NSTBE (Config.freeNstbe w.k)

/-- NSPBE as it acts beside NSPB. -/
def View.nspbe (w : View) : Word := w.ownerBit .NSPBE (Config.freeNspbe w.k)

/-- `TB_Reserved` in this evaluation (R203); variant 2 reserves nothing (R204). -/
def View.tbReserved (w : View) : Bool :=
  variant w.cfg .NSTB == 1 && w.has .NSTB && pairReserved w.cfg w.nstbe (w.fld .NSTB)

/-- `PB_Reserved` in this evaluation (R243); variant 2 reserves nothing (R244). -/
def View.pbReserved (w : View) : Bool :=
  variant w.cfg .NSPB == 1 && w.has .NSPB && pairReserved w.cfg w.nspbe (w.fld .NSPB)

end Sys2Proof.Machine
end

