-- ==== Sys2Proof/Machine/Counting.lean ====
section
/-! DEFINITION. The performance monitors: counting prohibitions (R178, R179, R209, R223 to R225, R319),
Capture events (R200), the MT bits (R201), PMUIRQ and the PMU Profiling exception (R174, R312), the F0
bits (R256). -/

namespace Sys2Proof.Machine

/-- `Range(n)` (R178): an input. -/
def View.rangeOf (w : View) (n : Nat) : CounterRange := w.env.ranges.getD n .other

/-- `MPMX_Affects(c)` (R178). -/
def mpmxAffects (w : View) (c : Counter) : Bool :=
  match c with
  | .PMEVCNTR n =>
    w.rangeOf n == .first || (w.rangeOf n == .second && (!w.cfg.haveEL2 || w.fld .SPME == 0))
  | .PMICNTR => w.cfg.FEAT_PMUv3_ICNTR
  | .PMCCNTR => w.env.pmcrDP

/-- `MPMX_Prohibits(c)` (R178). -/
def mpmxProhibits (w : View) (c : Counter) : Bool := w.isSet .MPMX && w.el == .EL3 && mpmxAffects w c

/-- `MCCD_Prohibits` (R179): the cycle counter only. -/
def mccdProhibits (w : View) (c : Counter) : Bool := c == .PMCCNTR && w.isSet .MCCD && w.el == .EL3

/-- `SCCD_Prohibits` (R209): the cycle counter only. -/
def sccdProhibits (w : View) (c : Counter) : Bool :=
  c == .PMCCNTR && w.isSet .SCCD && (w.env.ss == .Secure || w.el == .EL3)

/-- `SPME_Affects(c)` of variant 1 (R223). -/
def spmeAffects (w : View) (c : Counter) : Bool :=
  match c with
  | .PMEVCNTR n => w.rangeOf n == .first || w.rangeOf n == .second
  | .PMICNTR => w.cfg.FEAT_PMUv3_ICNTR
  | .PMCCNTR => w.env.pmcrDP

/-- The counters of SPME variants 2 and 3: every event counter, and PMCCNTR_EL0 with PMCR_EL0.DP (R224, R225). -/
def spmeOldAffects (w : View) (c : Counter) : Bool :=
  match c with
  | .PMEVCNTR _ => true
  | .PMICNTR => false
  | .PMCCNTR => w.env.pmcrDP

/-- `SPME_Prohibits(c)` by variant (R223 to R225). -/
def spmeProhibits (w : View) (c : Counter) : Bool :=
  match variant w.cfg .SPME with
  | 1 => w.fld .MPMX == 0 && w.isClear .SPME && (w.env.ss == .Secure || w.el == .EL3) && spmeAffects w c
  | 2 => w.isClear .SPME && w.env.ss == .Secure && spmeOldAffects w c
  | 3 => w.isClear .SPME && !w.env.extSecureNoninvasive && w.env.ss == .Secure && spmeOldAffects w c
  | _ => false

/-- `CountingProhibitedByMDCR_EL3(c)`: the OR of the four (R319, D29). -/
def countingProhibited (w : View) (c : Counter) : Bool :=
  mpmxProhibits w c || mccdProhibits w c || sccdProhibits w c || spmeProhibits w c

/-- `CaptureEvents` (R200); `none` when PMSSE is RES0. -/
def captureEvents (w : View) : Option CaptureEvents :=
  if !w.has .PMSSE then none
  else if w.fld .PMSSE == 0 then some .Disabled
  else if w.fld .PMSSE == 1 then some (.ByMDCR_EL2_PMSSE w.env.mdcrEL2Pmsse)
  else if w.fld .PMSSE == 2 then some .EnabledProhibited
  else some .EnabledAllowed

/-- `MTPME_eff == 0` (R201): this PE's bit is 0, or a sibling's is and the implementation heeds it. -/
def mtpmeActsAsZero (w : View) : Bool :=
  w.isClear .MTPME
    || (w.has .MTPME && w.cfg.IMPDEF_MTPME_SIBLING_DISABLE
        && w.env.siblings.any fun q => q.sameLevel1Affinity && !q.MTPME)

/-- The Effective value of a stored PMEVTYPER<n>_EL0.MT bit (R201). -/
def mtEffective (w : View) (stored : Bool) : Bool := stored && !mtpmeActsAsZero w

/-- What PMEE makes of the PMU's interrupt and exception; `none` when PMEE is RES0 (R174, R312). The
reserved 0b10 acts as one of the others, fixed while it is held (D24; log entry 20). -/
def pmeeMode (w : View) : Option PmeeMode :=
  if !w.has .PMEE then none
  else if w.fld .PMEE == 0 then some .irqOnOverflow
  else if w.fld .PMEE == 1 then some .byEL2
  else if w.fld .PMEE == 2 then some (Config.freePmee w.choice)
  else some .exceptionEnabled

/-- `PMUIRQ` (R174, R312). -/
def pmuIrq (w : View) : Option Bool :=
  match pmeeMode w with
  | none => none
  | some .irqOnOverflow => some w.env.pmuOverflow
  | some .byEL2 => some w.env.el2PmuIrq
  | some .exceptionEnabled => some false

/-- Is the PMU Profiling exception enabled (R174, R313)? -/
def pmuException (w : View) : Option Bool :=
  match pmeeMode w with
  | none => none
  | some .irqOnOverflow => some false
  | some .byEL2 => some w.env.el2PmuException
  | some .exceptionEnabled => some true

/-- EnPM2 forces `r.F0` to read-as-zero, writes-ignored at the current Exception level (R256). -/
def f0Forced (w : View) (r : RegName) : Bool :=
  w.isClear .EnPM2 && w.cfg.FEAT_PMUv3_ICNTR &&
    (([RegName.PMCNTENCLR_EL0, .PMCNTENSET_EL0, .PMOVSCLR_EL0, .PMOVSSET_EL0, .PMZR_EL0].contains r
        && !(w.el == .EL3))
      || ([RegName.PMINTENCLR_EL1, .PMINTENSET_EL1].contains r && (w.el == .EL1 || w.el == .EL2)))

/-- What a read of `r.F0`, stored as `stored`, gives (R256). -/
def f0Read (w : View) (r : RegName) (stored : Bool) : Bool := stored && !f0Forced w r

end Sys2Proof.Machine
end

