-- ==== Sys2Proof/Machine/Debug.lean ====
section
/-! DEFINITION. Self-hosted debug: SDD (R226, R227), SPD32 (R240 to R242), EnSTEPOP's enable (R165), the
Effective values EBWE imposes (R170). -/

namespace Sys2Proof.Machine

/-- `SDD_Active` (R226), with the parameter `SDD_RW_VALUE` of conflict C4. -/
def sddActive (w : View) : Bool := w.has .SDD && w.env.ss == .Secure && w.env.scrRW == w.cfg.SDD_RW_VALUE

/-- `SDD_DisablesDebugExc(x)` (R226). -/
def sddDisables (w : View) (x : DebugExc) : Bool :=
  sddActive w && w.isSet .SDD && x.isSoftware && !x.isBreakpointInstruction

/-- `SPD32_Active` (R241). -/
def spd32Active (w : View) : Bool := w.has .SPD32 && w.env.ss == .Secure && !w.env.scrRW

/-- `SPD32_DebugExcEnabled_SecureEL1` (R240); the reserved 0b01 behaves as 0b00. -/
def spd32SecureEL1 (w : View) : Bool :=
  if w.fld .SPD32 == 2 then false else if w.fld .SPD32 == 3 then true else w.env.authSecureEL1Debug

/-- Does SPD32 enable this debug exception from Secure EL1? `none` when the field is ignored (R241).
Breakpoint Instruction exceptions are always enabled (R240). -/
def spd32Enables (w : View) (x : DebugExc) : Option Bool :=
  if x.isBreakpointInstruction then some true
  else if spd32Active w then some (spd32SecureEL1 w)
  else none

/-- `DebugExcEnabled(Secure EL0)` under SDD's paragraph; `none` where it does not apply (R227). -/
def secureEL0BySDD (w : View) : Option Bool :=
  if w.has .SDD && w.env.secureEL2Enabled && w.env.secureEL1AArch32
  then some (w.env.debugExcSecureEL1 || w.env.suiden) else none

/-- `DebugExcEnabled(Secure EL0)` under SPD32's paragraph; `none` where it does not apply (R242). -/
def secureEL0BySPD32 (w : View) : Option Bool :=
  if spd32Active w && w.env.secureEL1AArch32 then some (spd32SecureEL1 w || w.env.suiden) else none

/-- `ExecutionFromMDSTEPOP_Disabled` (R165). -/
def stepopDisabled (w : View) : Bool := w.isClear .EnSTEPOP

/-- Effective MDSCR_EL1.EMBWE (R170). -/
def effectiveEMBWE (w : View) : Bool := w.env.mdscrEMBWE && !w.isClear .EBWE

/-- Effective MDCR_EL2.EBWE (R170). -/
def effectiveEL2EBWE (w : View) : Bool := w.env.mdcrEL2EBWE && !w.isClear .EBWE

/-- Effective MDSELR_EL1.BANK: zero at EL3 when EBWE is 0 (R170). -/
def effectiveBANK (w : View) : Nat := if w.isClear .EBWE && w.el == .EL3 then 0 else w.env.mdselrBANK

end Sys2Proof.Machine
end

