-- ==== Sys2Proof/Machine/Traps.lean ====
section
/-! DEFINITION. The nineteen trap controls (R160 to R257) and the general trap rule (R305). Register lists
are the source's; `<n>` names stand for every instance (R17). -/

namespace Sys2Proof.Machine

/-- `a.el in {EL1, EL2}`. -/
def atEL1or2 (a : Access) : Bool := a.el == .EL1 || a.el == .EL2

/-- `a.el in {EL0, EL1, EL2}`. -/
def belowEL3 (a : Access) : Bool := a.el == .EL0 || a.el == .EL1 || a.el == .EL2

/-- `a.instr in {MRS, MSR}`. -/
def isMRSorMSR (a : Access) : Bool := a.instr == .MRS || a.instr == .MSR

/-- `a.instr in {MRC, MCR}`. -/
def isMRCorMCR (a : Access) : Bool := a.instr == .MRC || a.instr == .MCR

/-- `a.state == AArch64 && a.instr in {MRS, MSR}`. -/
def isA64Move (a : Access) : Bool := a.state == .AArch64 && isMRSorMSR a

/-- The listed registers when the condition holds, none otherwise: "If FEAT_x is implemented, ...". -/
def regsIf (b : Bool) (l : List RegName) : List RegName := if b then l else []

/-- `some ec` when the condition holds. -/
def trapWhen (b : Bool) (ec : EC) : Option EC := if b then some ec else none

/-- R160. -/
def trapEnPMS4 (w : View) (a : Access) : Option EC :=
  trapWhen (w.isClear .EnPMS4 && isA64Move a && a.reg.isIn [.PMBMAR_EL1] && atEL1or2 a) 0x18

/-- R162. EC by D16. -/
def trapTRBEE (w : View) (a : Access) : Option EC :=
  trapWhen (w.holds .TRBEE 0 && a.reg.isIn [.TRBSR_EL2] && a.el == .EL2) 0x18

/-- R164. EC by D16. -/
def trapPMSEE (w : View) (a : Access) : Option EC :=
  trapWhen (w.holds .PMSEE 0 && a.reg.isIn [.PMBSR_EL2] && a.el == .EL2) 0x18

/-- R165. EC by D16. -/
def trapEnSTEPOP (w : View) (a : Access) : Option EC :=
  trapWhen (w.isClear .EnSTEPOP && a.reg.isIn [.MDSTEPOP_EL1] && belowEL3 a) 0x18

/-- R167. -/
def trapEnITE (w : View) (a : Access) : Option EC :=
  trapWhen (w.isClear .EnITE && isA64Move a
    && a.reg.isIn [.TRCITECR_EL1, .TRCITECR_EL2, .TRCITECR_EL12] && atEL1or2 a) 0x18

/-- The PMU Snapshot registers, `EPMSSAD_Regs` (R168, R169). -/
def snapshotRegs (c : Config) : List RegName :=
  List.append [.PMCCNTSVR_EL1, .PMEVCNTSVRn_EL1, .PMSSCR_EL1] (regsIf c.FEAT_PMUv3_ICNTR [.PMICNTSVR_EL1])

/-- R169. -/
def trapEnPMSS (w : View) (a : Access) : Option EC :=
  trapWhen (w.isClear .EnPMSS && isA64Move a && a.reg.isIn (snapshotRegs w.cfg) && atEL1or2 a) 0x18

/-- R171. -/
def trapEBWE (w : View) (a : Access) : Option EC :=
  trapWhen (w.isClear .EBWE && isA64Move a && a.reg.isIn [.MDSELR_EL1] && atEL1or2 a) 0x18

/-- R173. -/
def trapEnPMS3 (w : View) (a : Access) : Option EC :=
  trapWhen (w.isClear .EnPMS3 && isA64Move a && a.reg.isIn [.PMSDSFR_EL1] && atEL1or2 a) 0x18

/-- R175. -/
def trapEnTB2 (w : View) (a : Access) : Option EC :=
  trapWhen (w.isClear .EnTB2 && isA64Move a && a.reg.isIn [.TRBMPAM_EL1] && atEL1or2 a) 0x18

/-- R177. EC by D16. -/
def trapEnPMSN (w : View) (a : Access) : Option EC :=
  trapWhen (w.isClear .EnPMSN && a.reg.isIn [.PMSNEVFR_EL1] && atEL1or2 a) 0x18

/-- The Branch Record Buffer registers (R180). -/
def brbeRegs : List RegName :=
  [.BRBCR_EL1, .BRBCR_EL2, .BRBCR_EL12, .BRBFCR_EL1, .BRBIDR0_EL1, .BRBINFn_EL1, .BRBINFINJ_EL1,
   .BRBSRCn_EL1, .BRBSRCINJ_EL1, .BRBTGTn_EL1, .BRBTGTINJ_EL1, .BRBTS_EL1]

/-- R180. It follows the values' text, so EL0 is covered (conflict C3). EC by D16. -/
def trapSBRBE (w : View) (a : Access) : Option EC :=
  trapWhen (w.has .SBRBE && !(a.el == .EL3)
    && ((isMRSorMSR a && a.reg.isIn brbeRegs) || (a.instr == .SYS && a.reg.isIn [.BRB_IALL, .BRB_INJ]))
    && (w.fld .SBRBE == 0 || w.fld .SBRBE == 2 || (w.fld .SBRBE == 1 && a.ss == .Secure))) 0x18

/-- The DCC registers of R202: always trapped, or in Non-debug state only. -/
def dccA64Always : List RegName := [.OSDTRRX_EL1, .OSDTRTX_EL1, .MDCCSR_EL0, .MDCCINT_EL1]
def dccA64NonDebug : List RegName := [.DBGDTR_EL0, .DBGDTRRX_EL0, .DBGDTRTX_EL0]
def dccA32Always : List RegName := [.DBGDTRRXext, .DBGDTRTXext, .DBGDSCRint, .DBGDCCINT]
def dccA32NonDebug : List RegName := [.DBGDTRRXint, .DBGDTRTXint]

/-- R202. -/
def trapTDCC (w : View) (a : Access) : Option EC :=
  if !(w.isSet .TDCC && belowEL3 a) then none
  else if isA64Move a && (a.reg.isIn dccA64Always || (a.reg.isIn dccA64NonDebug && !a.halted)) then some 0x18
  else if a.state == .AArch32 && isMRCorMCR a && a.coproc == 0b1110
      && (a.reg.isIn dccA32Always || (a.reg.isIn dccA32NonDebug && !a.halted)) then some 0x05
  else if a.state == .AArch32 && !a.halted
      && ((a.instr == .LDC && a.reg.isIn [.DBGDTRTXint]) || (a.instr == .STC && a.reg.isIn [.DBGDTRRXint]))
    then some 0x06
  else none

/-- `TB_Owner` of a pair that is not reserved (R203, R204); NSTBE reads as 0 in variant 2. -/
def View.tbOwner (w : View) : SecState :=
  if w.nstbe == 1 then .Realm else if 2 ≤ w.fld .NSTB then .NonSecure else .Secure

/-- `TB_Regs` (R205). -/
def tbRegs (c : Config) : List RegName :=
  List.flatten
    [[.TRBBASER_EL1, .TRBLIMITR_EL1, .TRBMAR_EL1, .TRBPTR_EL1, .TRBSR_EL1, .TRBTRG_EL1],
     regsIf c.FEAT_TRBE_MPAM [.TRBMPAM_EL1],
     regsIf c.FEAT_TRBE_EXC [.TRBSR_EL2, .TRBSR_EL12]]

/-- `TB_TrapAll`: NSTB[0] is 0 (R203). -/
def View.tbTrapAll (w : View) : Bool := w.fld .NSTB == 0 || w.fld .NSTB == 2

/-- R203, R204; a reserved pair traps as `CU_NSTB_RESERVED_TRAP` says (R208, D4). The Effective value of a PE
without EL3 (R78) traps nothing: there is no EL3 to take it. -/
def trapNSTB (w : View) (a : Access) : Option EC :=
  trapWhen (registerExists w.cfg && w.has .NSTB && isA64Move a && a.reg.isIn (tbRegs w.cfg) && atEL1or2 a
    && (if w.tbReserved then w.cfg.CU_NSTB_RESERVED_TRAP
        else w.tbTrapAll || !(a.ss == w.tbOwner))) 0x18

/-- R221. -/
def trapTTRF (w : View) (a : Access) : Option EC :=
  if !(w.isSet .TTRF && atEL1or2 a) then none
  else if a.state == .AArch64 && a.reg.isIn [.TRFCR_EL2, .TRFCR_EL12, .TRFCR_EL1] then some 0x18
  else if a.state == .AArch32 && a.reg.isIn [.HTRFCR, .TRFCR] then some 0x03
  else none

/-- `PB_Owner` of a pair that is not reserved (R243, R244). -/
def View.pbOwner (w : View) : SecState :=
  if w.nspbe == 1 then .Realm else if 2 ≤ w.fld .NSPB then .NonSecure else .Secure

/-- `PB_TrapAll`: NSPB[0] is 0 (R243). -/
def View.pbTrapAll (w : View) : Bool := w.fld .NSPB == 0 || w.fld .NSPB == 2

/-- `PB_RW_Regs` (R245). -/
def pbRegs (c : Config) : List RegName :=
  List.flatten
    [[.PMBLIMITR_EL1, .PMBPTR_EL1, .PMBSR_EL1, .PMSCR_EL1, .PMSCR_EL2, .PMSCR_EL12, .PMSEVFR_EL1,
      .PMSFCR_EL1, .PMSICR_EL1, .PMSIRR_EL1, .PMSLATFR_EL1],
     regsIf c.FEAT_SPE_FnE [.PMSNEVFR_EL1],
     regsIf c.FEAT_SPE_FDS [.PMSDSFR_EL1],
     regsIf c.FEAT_SPE_EXC [.PMBSR_EL2, .PMBSR_EL12],
     regsIf c.FEAT_SPE_nVM [.PMBMAR_EL1]]

/-- `PB_Access` (R245): PMSIDR_EL1 for MRS only. -/
def pbAccess (c : Config) (a : Access) : Bool :=
  (isMRSorMSR a && a.reg.isIn (pbRegs c)) || (a.instr == .MRS && a.reg.isIn [.PMSIDR_EL1])

/-- R243, R244; a reserved pair traps as `CU_NSPB_RESERVED_TRAP` says (R247, D4). Without EL3 as `trapNSTB`. -/
def trapNSPB (w : View) (a : Access) : Option EC :=
  trapWhen (registerExists w.cfg && w.has .NSPB && a.state == .AArch64 && pbAccess w.cfg a && atEL1or2 a
    && (if w.pbReserved then w.cfg.CU_NSPB_RESERVED_TRAP
        else w.pbTrapAll || !(a.ss == w.pbOwner))) 0x18

/-- `TDOSA_A64` by variant (R248, R249). -/
def tdosaA64 (c : Config) (r : SysReg) : Bool :=
  r.isIn [.OSLAR_EL1, .OSLSR_EL1, .DBGPRCR_EL1]
    || (r.isIn [.OSDLR_EL1] && (variant c .TDOSA == 1 || c.IMPDEF_TDOSA_TRAPS_OSDLR))
    || c.tdosaExtraA64.contains r

/-- `TDOSA_A32` by variant (R248, R249). -/
def tdosaA32 (c : Config) (r : SysReg) : Bool :=
  r.isIn [.DBGOSLAR, .DBGOSLSR, .DBGPRCR]
    || (r.isIn [.DBGOSDLR] && (variant c .TDOSA == 1 || c.IMPDEF_TDOSA_TRAPS_OSDLR))
    || c.tdosaExtraA32.contains r

/-- R250; `el2` is `TrappedBy_EL2_TDOSA(a)` (R308). No EL0 access reaches it (R251). -/
def trapTDOSA (w : View) (el2 : Bool) (a : Access) : Option EC :=
  if !(w.isSet .TDOSA && atEL1or2 a) || el2 then none
  else if a.state == .AArch64 && tdosaA64 w.cfg a.reg then some 0x18
  else if a.state == .AArch32 && isMRCorMCR a && tdosaA32 w.cfg a.reg then some 0x05
  else none

/-- `TDA_TrapsMDSELR` (R254). -/
def tdaTrapsMDSELR (c : Config) : Bool :=
  if decide (c.NUM_BREAKPOINTS ≤ 16) && decide (c.NUM_WATCHPOINTS ≤ 16) && c.MDSELR_RAZWI
  then c.IMPDEF_TDA_TRAPS_MDSELR else true

/-- `TDA_A64` (R252). -/
def tdaA64Regs (c : Config) : List RegName :=
  List.flatten
    [[.DBGAUTHSTATUS_EL1, .DBGBCRn_EL1, .DBGBVRn_EL1, .DBGCLAIMCLR_EL1, .DBGCLAIMSET_EL1, .DBGVCR32_EL2,
      .DBGWCRn_EL1, .DBGWVRn_EL1, .MDCCINT_EL1, .MDCCSR_EL0, .MDCR_EL2, .MDRAR_EL1, .MDSCR_EL1,
      .OSDTRRX_EL1, .OSDTRTX_EL1, .OSECCR_EL1],
     regsIf (c.FEAT_Debugv8p9 && tdaTrapsMDSELR c) [.MDSELR_EL1],
     regsIf c.FEAT_STEP2 [.MDSTEPOP_EL1]]

/-- `TDA_A64_Access` (R252). -/
def tdaA64Access (c : Config) (a : Access) : Bool :=
  a.state == .AArch64 &&
    ((isMRSorMSR a && a.reg.isIn (tdaA64Regs c))
      || (!a.halted && a.instr == .MRS && a.reg.isIn [.DBGDTRRX_EL0, .DBGDTR_EL0])
      || (!a.halted && a.instr == .MSR && a.reg.isIn [.DBGDTRTX_EL0, .DBGDTR_EL0]))

/-- `TDA_A32` (R253). -/
def tdaA32Regs : List RegName :=
  [.DBGAUTHSTATUS, .DBGBCRn, .DBGBVRn, .DBGBXVRn, .DBGCLAIMCLR, .DBGCLAIMSET, .DBGDCCINT, .DBGDEVID,
   .DBGDEVID1, .DBGDEVID2, .DBGDIDR, .DBGDRAR, .DBGDSAR, .DBGDSCRext, .DBGDSCRint, .DBGDTRRXext,
   .DBGDTRTXext, .DBGOSECCR, .DBGVCR, .DBGWCRn, .DBGWFAR, .DBGWVRn, .HDCR, .SDER]

/-- `TDA_A32_Access` (R253). The STC and LDC items hold in Debug state too. -/
def tdaA32Access (a : Access) : Bool :=
  a.state == .AArch32 &&
    ((isMRCorMCR a && a.reg.isIn tdaA32Regs)
      || (a.instr == .MRRC && a.reg.isIn [.DBGDRAR, .DBGDSAR])
      || (a.instr == .STC && a.reg.isIn [.DBGDTRRXint]) || (a.instr == .LDC && a.reg.isIn [.DBGDTRTXint])
      || (!a.halted && a.instr == .MRC && a.reg.isIn [.DBGDTRRXint])
      || (!a.halted && a.instr == .MCR && a.reg.isIn [.DBGDTRTXint]))

/-- R254, with conflict C1's reading of the coproc 0b1110 item. -/
def trapTDA (w : View) (a : Access) : Option EC :=
  if !(w.isSet .TDA && belowEL3 a) then none
  else if tdaA64Access w.cfg a then some 0x18
  else if tdaA32Access a && isMRCorMCR a && a.coproc == 0b1111 then some 0x03
  else if tdaA32Access a && isMRCorMCR a && a.coproc == 0b1110 then some 0x05
  else if tdaA32Access a && (a.instr == .LDC || a.instr == .STC) then some 0x06
  else if tdaA32Access a && a.instr == .MRRC then some 0x0C
  else none

/-- `EnPM2_RW` (R255). -/
def enPM2Regs (c : Config) : List RegName :=
  List.flatten
    [regsIf (c.FEAT_EBEP || c.FEAT_PMUv3_SS) [.PMECR_EL1],
     regsIf c.FEAT_PMUv3_ICNTR [.PMICFILTR_EL0, .PMICNTR_EL0],
     regsIf c.FEAT_PMUv3p9 [.PMUACR_EL1],
     regsIf c.FEAT_SPMU
       [.SPMACCESSR_EL1, .SPMACCESSR_EL2, .SPMACCESSR_EL12, .SPMCFGR_EL1, .SPMCGCRn_EL1,
        .SPMCNTENCLR_EL0, .SPMCNTENSET_EL0, .SPMCR_EL0, .SPMDEVAFF_EL1, .SPMDEVARCH_EL1,
        .SPMEVCNTRn_EL0, .SPMEVFILT2Rn_EL0, .SPMEVFILTRn_EL0, .SPMEVTYPERn_EL0, .SPMIIDR_EL1,
        .SPMINTENCLR_EL1, .SPMINTENSET_EL1, .SPMOVSCLR_EL0, .SPMOVSSET_EL0, .SPMSCR_EL1, .SPMSELR_EL0]]

/-- R255. -/
def trapEnPM2 (w : View) (a : Access) : Option EC :=
  trapWhen (w.isClear .EnPM2 && a.state == .AArch64 && belowEL3 a
    && ((isMRSorMSR a && a.reg.isIn (enPM2Regs w.cfg))
      || (w.cfg.FEAT_SPMU2 && a.instr == .MSR && a.reg.isIn [.SPMZR_EL0]))) 0x18

/-- The register lists of TPM (R257): AArch64 MRS and MSR, MRS only, MSR only; AArch32 MRC and MCR, MRC only. -/
def tpmA64RW (c : Config) : List RegName :=
  List.flatten
    [[.PMCCFILTR_EL0, .PMCCNTR_EL0, .PMCNTENCLR_EL0, .PMCNTENSET_EL0, .PMCR_EL0, .PMEVCNTRn_EL0,
      .PMEVTYPERn_EL0, .PMINTENCLR_EL1, .PMINTENSET_EL1, .PMOVSCLR_EL0, .PMOVSSET_EL0, .PMSELR_EL0,
      .PMSWINC_EL0, .PMUSERENR_EL0, .PMXEVCNTR_EL0, .PMXEVTYPER_EL0],
     regsIf c.FEAT_PMUv3_ICNTR [.PMICFILTR_EL0, .PMICNTR_EL0],
     regsIf (c.FEAT_EBEP || c.FEAT_PMUv3_SS) [.PMECR_EL1]]
def tpmA64RO (c : Config) : List RegName :=
  List.append [.PMCEID0_EL0, .PMCEID1_EL0] (regsIf c.FEAT_PMUv3p4 [.PMMIR_EL1])
def tpmA64WO (c : Config) : List RegName := regsIf c.FEAT_PMUv3p9 [.PMZR_EL0]
def tpmA32RW : List RegName :=
  [.PMCCFILTR, .PMCCNTR, .PMCEID0, .PMCEID1, .PMCNTENCLR, .PMCNTENSET, .PMCR, .PMEVCNTRn, .PMEVTYPERn,
   .PMINTENCLR, .PMINTENSET, .PMOVSR, .PMOVSSET, .PMSELR, .PMSWINC, .PMUSERENR, .PMXEVCNTR, .PMXEVTYPER]
def tpmA32RO (c : Config) : List RegName :=
  List.append (regsIf c.FEAT_PMUv3p1 [.PMCEID2, .PMCEID3]) (regsIf c.FEAT_PMUv3p4 [.PMMIR])

/-- R257. -/
def trapTPM (w : View) (a : Access) : Option EC :=
  if !(w.isSet .TPM && belowEL3 a) then none
  else if a.state == .AArch64
      && ((isMRSorMSR a && a.reg.isIn (tpmA64RW w.cfg)) || (a.instr == .MRS && a.reg.isIn (tpmA64RO w.cfg))
        || (a.instr == .MSR && a.reg.isIn (tpmA64WO w.cfg))) then some 0x18
  else if a.state == .AArch32
      && ((isMRCorMCR a && a.reg.isIn tpmA32RW) || (a.instr == .MRC && a.reg.isIn (tpmA32RO w.cfg)))
    then some 0x03
  else if a.state == .AArch32 && (a.instr == .MRRC || a.instr == .MCRR) && a.reg.isIn [.PMCCNTR] then some 0x04
  else none

/-- What each of the nineteen controls says of an access, in R305's order. -/
def trapResults (w : View) (el2 : Bool) (a : Access) : List (Option EC) :=
  [trapEnPMS4 w a, trapTRBEE w a, trapPMSEE w a, trapEnSTEPOP w a, trapEnITE w a, trapEnPMSS w a,
   trapEBWE w a, trapEnPMS3 w a, trapEnTB2 w a, trapEnPMSN w a, trapSBRBE w a, trapTDCC w a, trapNSTB w a,
   trapTTRF w a, trapNSPB w a, trapTDOSA w el2 a, trapTDA w a, trapEnPM2 w a, trapTPM w a]

/-- `cands` of R305: the EC values of the controls that match. -/
def trapCandidates (w : View) (el2 : Bool) (a : Access) : List EC := (trapResults w el2 a).filterMap id

/-- The outcome of R305 for an access. -/
inductive AccessOutcome where
  /-- No control matches: the access proceeds under the host's other rules. -/
  | proceeds
  /-- The host takes the exception of higher priority (R309). -/
  | otherException
  /-- `raise TrapToEL3(ec)`. -/
  | trap (ec : EC)
  deriving DecidableEq, Repr

/-- The general trap rule (R305); `higher` is `HigherPriorityException(a)` (R309). When several controls
match, their EC values are equal (R307) and one exception is taken. -/
def accessOutcome (w : View) (higher el2 : Bool) (a : Access) : AccessOutcome :=
  match trapCandidates w el2 a with
  | [] => .proceeds
  | ec :: _ => if higher then .otherException else .trap ec

end Sys2Proof.Machine
end

