-- ==== Sys2Proof/Machine/External.lean ====
section
/-! DEFINITION. External debugger accesses: ETBAD, EPMSSAD, ETAD, EPMAD, EDAD (R166, R168, R210 to R220,
R322). -/

namespace Sys2Proof.Machine

/-- The prohibition of a two-bit disable field without pair: ETBAD, EPMSSAD (R166, R168). `n` is the value
in force. -/
def disableProhibits (rme : Bool) (n : Word) (attr : SecState) : Bool :=
  if n == 0 then attr == .NonSecure || (rme && (attr == .Secure || attr == .Realm))
  else if n == 1 then attr == .Secure || attr == .NonSecure
  else if n == 2 then attr == .Realm || attr == .NonSecure
  else false

/-- The value a two-bit disable field acts with: without FEAT_RME, 0b01 and 0b10 are reserved and act as
one of the defined 0b00 and 0b11, `zero` telling which (D23; log entry 21). -/
def disableValue (rme zero : Bool) (n : Word) : Word :=
  if !rme && (n == 1 || n == 2) then (if zero then 0 else 3) else n

/-- `ETBAD_Prohibits(e)` (R166). "Trace Buffer registers" is the input set of N19. -/
def etbadProhibits (w : View) (e : ExtAccess) : Bool :=
  w.has .ETBAD && w.cfg.traceBufferRegs.contains e.reg
    && disableProhibits w.cfg.FEAT_RME
        (disableValue w.cfg.FEAT_RME (Config.freeEtbadZero w.k) (w.fld .ETBAD)) e.attr

/-- `EPMSSAD_Prohibits(e)` (R168). -/
def epmssadProhibits (w : View) (e : ExtAccess) : Bool :=
  w.has .EPMSSAD && e.reg.isIn (snapshotRegs w.cfg)
    && disableProhibits w.cfg.FEAT_RME
        (disableValue w.cfg.FEAT_RME (Config.freeEpmssadZero w.k) (w.fld .EPMSSAD)) e.attr

/-- `XAD_Prohibits(E, D, attr)`: `E` the ...ADE bit, `D` the ...AD bit (R210). -/
def xadProhibits (E D : Bool) (attr : SecState) : Bool :=
  (!E && D && (attr == .Realm || attr == .NonSecure))
    || (E && !D && (attr == .Secure || attr == .NonSecure))
    || (E && D && (attr == .Secure || attr == .NonSecure || attr == .Realm))

/-- `ETAD_Prohibits(e)` by variant (R210, R211); the register sets are inputs (N19). -/
def etadProhibits (w : View) (e : ExtAccess) : Bool :=
  match variant w.cfg .ETAD with
  | 1 => w.cfg.traceUnitRegs.contains e.reg && xadProhibits (w.isSet .ETADE) (w.isSet .ETAD) e.attr
  | 2 => w.isSet .ETAD && e.attr == .NonSecure && w.cfg.etadAffects.contains e.reg
  | _ => false

/-- `EPMAD_Base` (R212). -/
def epmadBase (c : Config) : List RegName :=
  List.flatten
    [[.PMCCFILTR_EL0, .PMCCNTR_EL0, .PMCFGR, .PMCNTENCLR_EL0, .PMCNTENSET_EL0, .PMCR_EL0,
      .PMEVCNTRn_EL0, .PMEVTYPERn_EL0, .PMINTENCLR_EL1, .PMINTENSET_EL1, .PMOVSCLR_EL0, .PMOVSSET_EL0],
     regsIf c.PMEVFILT2R_IMPLEMENTED [.PMEVFILT2Rn],
     regsIf c.PMIIDR_IMPLEMENTED [.PMIIDR],
     regsIf c.PMSWINC_IN_EXTERNAL_VIEW [.PMSWINC_EL0],
     regsIf c.FEAT_PMUv3p4 [.PMMIR]]

/-- `EPMAD_Ext` (R212). -/
def epmadExt (c : Config) : List RegName :=
  List.flatten
    [regsIf c.FEAT_PMUv3_EXT64 [.PMCNTEN, .PMINTEN, .PMOVS],
     regsIf c.FEAT_PMUv3p9 [.PMZR_EL0],
     regsIf c.FEAT_PMUv3_ICNTR [.PMCGCR0, .PMICFILTR_EL0, .PMICNTR_EL0],
     regsIf c.FEAT_PCSRv8p9 [.PMPCSCTL]]

/-- `EPMAD_Regs`: variant 3 has the shorter list (R212, conflict C5). -/
def epmadRegs (c : Config) : List RegName :=
  if variant c .EPMAD == 3 then epmadBase c else List.append (epmadBase c) (epmadExt c)

/-- `EPMAD_Prohibits(e)` by variant (R213 to R215). -/
def epmadProhibits (w : View) (e : ExtAccess) : Bool :=
  e.reg.isIn (epmadRegs w.cfg) &&
    match variant w.cfg .EPMAD with
    | 1 => xadProhibits (w.isSet .EPMADE) (w.isSet .EPMAD) e.attr
    | 2 => w.isSet .EPMAD && e.attr == .NonSecure
    | 3 => w.isSet .EPMAD && !w.env.extSecureInvasive
    | _ => false

/-- `EDAD_Regs` (R216). -/
def edadRegs (c : Config) : List RegName :=
  List.append [.DBGBCRn_EL1, .DBGBVRn_EL1, .DBGWCRn_EL1, .DBGWVRn_EL1]
    (regsIf (!(variant c .EDAD == 4) || c.IMPDEF_EDAD_AFFECTS_OSLAR) [.OSLAR_EL1])

/-- `EDAD_Prohibits(e)` by variant (R217 to R220). -/
def edadProhibits (w : View) (e : ExtAccess) : Bool :=
  e.reg.isIn (edadRegs w.cfg) &&
    match variant w.cfg .EDAD with
    | 1 => xadProhibits (w.isSet .EDADE) (w.isSet .EDAD) e.attr
    | 2 => w.isSet .EDAD && e.attr == .NonSecure
    | _ => w.isSet .EDAD && !w.env.extSecureInvasive

/-- `ExternalAccessProhibited(e)` (R322). -/
def externalProhibited (w : View) (e : ExtAccess) : Bool :=
  etbadProhibits w e || epmssadProhibits w e || etadProhibits w e || epmadProhibits w e || edadProhibits w e

end Sys2Proof.Machine
end

