-- ==== Sys2Proof/Machine/Tracing.lean ====
section
/-! DEFINITION. Trace, profiling and branch recording: TRBEE and PMSEE (R161 to R164, R310, R311), the
buffer owners (R203 to R208, R243 to R247), STE and RLTE (R222, R261), E3BREC/E3BREW and SBRBE (R176,
R181). -/

namespace Sys2Proof.Machine

/-- The meaning of a two-bit exception enable (R161, R163). -/
def excEnable (n : Word) : ExcEnable :=
  if n == 0 then .Disabled else if n == 1 then .Delegated else if n == 2 then .Enabled else .TrapAll

/-- TRBEE's meaning; `none` when RES0 (R161). -/
def trbeMode (w : View) : Option ExcEnable := if w.has .TRBEE then some (excEnable (w.fld .TRBEE)) else none

/-- PMSEE's meaning; `none` when RES0 (R163). -/
def speMode (w : View) : Option ExcEnable := if w.has .PMSEE then some (excEnable (w.fld .PMSEE)) else none

/-- Is a buffer management event recorded at EL3, under a mode (R161, R163)? -/
def recordedAtEL3 (env : Env) (m : Option ExcEnable) (c : EventCause) : Bool :=
  match m with
  | some .TrapAll => true
  | some .Enabled =>
    match c with
    | .gpcFaultOtherThanGPF => true
    | .GPF => env.scrGPF
    | .externalAbort => env.scrEA
    | .other => false
  | some .Disabled => false
  | some .Delegated => false
  | none => false

/-- `RecordInTRBSR_EL3(ev)` (R161). -/
def trbRecorded (w : View) (c : EventCause) : Bool := recordedAtEL3 w.env (trbeMode w) c

/-- `RecordInPMBSR_EL3(ev)` (R163). -/
def pmbRecorded (w : View) (c : EventCause) : Bool := recordedAtEL3 w.env (speMode w) c

/-- Does the mode enable Profiling exceptions to EL3 (R161, R163)? -/
def enabledAtEL3 (m : Option ExcEnable) : Bool := m == some .Enabled || m == some .TrapAll

/-- `TRBE_ProfilingException_to_EL3` (R161). -/
def trbeException (w : View) : Bool := enabledAtEL3 (trbeMode w) && w.env.trbeUnmasked && w.env.trbsr3.IRQ

/-- `SPE_ProfilingException_to_EL3` (R163). -/
def speException (w : View) : Bool := enabledAtEL3 (speMode w) && w.env.speUnmasked && w.env.pmbsr3.S

/-- The EL2 and EL1 enables that value 0b01 delegates to (R161, R163, R313). -/
def trbeDelegate (w : View) : Option (Nat × Nat) :=
  if trbeMode w == some .Delegated then some (w.env.trfcrEL2EE, w.env.trfcrEL1EE) else none
def speDelegate (w : View) : Option (Nat × Nat) :=
  if speMode w == some .Delegated then some (w.env.pmscrEL2EE, w.env.pmscrEL1EE) else none

/-- `TRBIRQ`: stated for TRBEE = 0b00 only (R310). -/
def trbIrq (w : View) : Option Bool := if trbeMode w == some .Disabled then some w.env.trbsr1.IRQ else none

/-- `PMBIRQ`: stated for PMSEE = 0b00 only (R311). -/
def pmbIrq (w : View) : Option Bool := if speMode w == some .Disabled then some w.env.pmbsr1.S else none

/-- Accesses to this register ignore HCR_EL2.NV1 (at EL1) and HCR_EL2.E2H (at EL2) (R162, R164). -/
def ignoresHcr (w : View) (r : RegName) : Bool :=
  (r == .TRBSR_EL1 && w.holds .TRBEE 0) || (r == .PMBSR_EL1 && w.holds .PMSEE 0)

/-- HCR_EL2.NV1 as it acts on an access to `r`: as if 0 when ignored, which is at EL1 (R162, R164). -/
def nv1For (w : View) (r : RegName) : Bool := w.env.hcrNV1 && !(ignoresHcr w r && w.el == .EL1)

/-- HCR_EL2.E2H as it acts on an access to `r`: as if 0 when ignored, which is at EL2 (R162, R164). -/
def e2hFor (w : View) (r : RegName) : Bool := w.env.hcrE2H && !(ignoresHcr w r && w.el == .EL2)

/-- What a reserved owner pair makes of its unit (R207, R246). -/
def reservedUse (inUse : Bool) (p : ReservedOwner) : BufferUse :=
  if inUse then
    match p with
    | .AsDisabled => .asDisabled
    | .PickOwner s => .owner s
    | .DropAndEvent => .dropAndEvent
  else .noStatedEffect

/-- What {NSTBE, NSTB} make of the Trace Buffer Unit; `none` when NSTB is RES0 (R203, R204, R207). -/
def traceBufferUse (w : View) : Option BufferUse :=
  if !w.has .NSTB then none
  else if w.tbReserved then some (reservedUse w.env.tbuSelfHosted w.cfg.CU_NSTB_RESERVED)
  else some (.owner w.tbOwner)

/-- What {NSPBE, NSPB} make of the Statistical Profiling Unit (R243, R244, R246). -/
def profilingBufferUse (w : View) : Option BufferUse :=
  if !w.has .NSPB then none
  else if w.pbReserved then some (reservedUse w.env.profilingEnabled w.cfg.CU_NSPB_RESERVED)
  else some (.owner w.pbOwner)

/-- Does a unit's use exclude this Security state (R203, R243)? `idle` is the answer for a unit that behaves
as if disabled. The tables speak of Secure, Non-secure and Realm state only; of Root, of a unit that drops
data, and of a reserved pair out of use they say nothing. -/
def excludedBy (idle : Bool) (u : Option BufferUse) (ss : SecState) : Option Bool :=
  match u with
  | none => some false
  | some (.owner o) => if ss == .Root then none else some (!(ss == o))
  | some .asDisabled => some idle
  | some .dropAndEvent => none
  | some .noStatedEffect => none

/-- `TB_TraceProhibited(ss)` (R203, R206). A unit that behaves as if disabled prohibits no tracing (R206). -/
def tbTraceProhibited (w : View) (ss : SecState) : Option Bool :=
  if w.env.traceBufferEnabled then excludedBy false (traceBufferUse w) ss else some false

/-- `PB_ProfilingDisabled(ss)` (R243): no "enabled" premise. A unit that behaves as if profiling is
disabled profiles nowhere (R246). -/
def profilingDisabled (w : View) (ss : SecState) : Option Bool := excludedBy true (profilingBufferUse w) ss

/-- `STE_TraceProhibited(ss)` (R222). -/
def steProhibits (w : View) (ss : SecState) : Bool :=
  w.isClear .STE && ss == .Secure && !w.env.authOverrideSecureTrace

/-- `RLTE_TraceProhibited(ss)` (R261). -/
def rlteProhibits (w : View) (ss : SecState) : Bool :=
  w.isClear .RLTE && ss == .Realm && !w.env.authOverrideRealmTrace

/-- Tracing is prohibited in `ss` by one of the three controls; `none` when none that is stated prohibits
it and NSTB's table does not say. -/
def tracingProhibited (w : View) (ss : SecState) : Option Bool :=
  if steProhibits w ss || rlteProhibits w ss then some true else tbTraceProhibited w ss

/-- A one-bit field as another unit sees it; `none` when RES0. -/
def exposed (w : View) (f : Field) : Option Bool := if w.has f then some (w.isSet f) else none

/-- `BranchRecordingAtEL3_Enabled` (R176). -/
def branchRecordingAtEL3 (w : View) : Bool := w.has .E3BREC && !(w.fld .E3BREC == w.fld .E3BREW)

/-- `SBRBE_Prohibited(el, ss)` (R181), for a register that has SBRBE. -/
def sbrbeProhibited (w : View) (el : EL) (ss : SecState) : Bool :=
  w.has .SBRBE &&
    ((el == .EL3 && !w.cfg.FEAT_BRBEv1p1)
      || (!(el == .EL3) && (w.fld .SBRBE == 0 || (w.fld .SBRBE == 1 && ss == .Secure))))

/-- Branch recording is prohibited at `el` in `ss`: SBRBE's regions, and at EL3 the E3BREC, E3BREW pair
(R176, R181). -/
def branchProhibited (w : View) (el : EL) (ss : SecState) : Bool :=
  sbrbeProhibited w el ss || (el == .EL3 && w.has .E3BREC && !branchRecordingAtEL3 w)

/-- TRBSR_ELx after trace data reached a unit that drops it and raises the event (R207). -/
def trbDrop (r : TrbStatus) : TrbStatus :=
  if r.S then { r with IRQ := true } else { r with IRQ := true, S := true, EC := 0, BSC := 0 }

/-- PMBSR_ELx after profiling data reached a unit that drops it and raises the event (R246). -/
def pmbDrop (r : PmbStatus) : PmbStatus :=
  if r.S then r else { r with S := true, DL := true, EC := 0, BSC := 0 }

/-- Apply `f` to TRBSR_ELx; there is none at EL0. -/
def Env.updTrbsr (env : Env) (x : EL) (f : TrbStatus → TrbStatus) : Env :=
  match x with
  | .EL0 => env
  | .EL1 => { env with trbsr1 := f env.trbsr1 }
  | .EL2 => { env with trbsr2 := f env.trbsr2 }
  | .EL3 => { env with trbsr3 := f env.trbsr3 }

/-- Apply `f` to PMBSR_ELx; there is none at EL0. -/
def Env.updPmbsr (env : Env) (x : EL) (f : PmbStatus → PmbStatus) : Env :=
  match x with
  | .EL0 => env
  | .EL1 => { env with pmbsr1 := f env.pmbsr1 }
  | .EL2 => { env with pmbsr2 := f env.pmbsr2 }
  | .EL3 => { env with pmbsr3 := f env.pmbsr3 }

/-- The inputs after trace data arrived, `x` naming the status register that records an event (R207, N23). -/
def traceDataEnv (w : View) (x : EL) : Env :=
  if traceBufferUse w == some .dropAndEvent then w.env.updTrbsr x trbDrop else w.env

/-- The inputs after profiling data was generated (R246, N23). -/
def profilingDataEnv (w : View) (x : EL) : Env :=
  if profilingBufferUse w == some .dropAndEvent then w.env.updPmbsr x pmbDrop else w.env

end Sys2Proof.Machine
end

