-- ==== Sys2Proof/Machine/Events.lean ====
section
/-! DEFINITION. What one host event does: the queries of the units, software's System register accesses,
resets, exception entry and return, changes of the inputs (R13, R305, R342). -/

namespace Sys2Proof.Machine

/-- The Effective value of a field (R78): the value it acts with, but with EL3 `none` where SDD or SPD32 is
ignored (R226, R241), 0 for a reserved SPD32 (R240) and for MTPME that a sibling disables (R201). -/
def effectiveValue (w : View) (f : Field) : Option Word :=
  if !registerExists w.cfg then w.value f
  else match f with
    | .SDD => if sddActive w then w.value .SDD else none
    | .SPD32 => if !spd32Active w then none else if w.fld .SPD32 == 1 then some 0 else w.value .SPD32
    | .MTPME => if mtpmeActsAsZero w then some 0 else w.value .MTPME
    | f => w.value f

/-- The answer to a unit's query, in one evaluation's view. -/
def answerQuery (w : View) : Query → Answer
  | .external e => .bool (externalProhibited w e)
  | .trbRecorded c => .bool (trbRecorded w c)
  | .pmbRecorded c => .bool (pmbRecorded w c)
  | .trbeMode => .mode (trbeMode w)
  | .speMode => .mode (speMode w)
  | .trbeDelegate => .delegate (trbeDelegate w)
  | .speDelegate => .delegate (speDelegate w)
  | .trbeException => .bool (trbeException w)
  | .speException => .bool (speException w)
  | .trbIrq => .maybe (trbIrq w)
  | .pmbIrq => .maybe (pmbIrq w)
  | .pmuIrq => .maybe (pmuIrq w)
  | .pmuException => .maybe (pmuException w)
  | .nv1For r => .bool (nv1For w r)
  | .e2hFor r => .bool (e2hFor w r)
  | .counting c => .bool (countingProhibited w c)
  | .capture => .captureMode (captureEvents w)
  | .mtEffective b => .bool (mtEffective w b)
  | .branchProhibited el ss => .bool (branchProhibited w el ss)
  | .tracingProhibited ss => .maybe (tracingProhibited w ss)
  | .profilingDisabled ss => .maybe (profilingDisabled w ss)
  | .traceBufferUse => .buffer (traceBufferUse w)
  | .profilingBufferUse => .buffer (profilingBufferUse w)
  | .traceAuthentication => .twoBools (exposed w .STE) (exposed w .RLTE)
  | .sddDisables x => .bool (sddDisables w x)
  | .spd32Enables x => .maybe (spd32Enables w x)
  | .secureEL0BySDD => .maybe (secureEL0BySDD w)
  | .secureEL0BySPD32 => .maybe (secureEL0BySPD32 w)
  | .stepopDisabled => .bool (stepopDisabled w)
  | .embwe => .bool (effectiveEMBWE w)
  | .el2Ebwe => .bool (effectiveEL2EBWE w)
  | .bank => .number (effectiveBANK w)
  | .f0Read r b => .bool (f0Read w r b)
  | .f0WriteIgnored r => .bool (f0Forced w r)
  | .effective f => .value (effectiveValue w f)

/-- The access record of an access made now (R17). -/
def State.accessRecord (s : State) (q : AccessReq) : Access :=
  { state := q.state, instr := q.instr, reg := q.reg, coproc := q.coproc, el := s.el, ss := s.env.ss,
    halted := s.env.halted }

/-- Announce an answer; an evaluation uses up one draw number. -/
def State.announce (s : State) (a : Answer) : State := { s.draw with answer := some a }

/-- A System register access by software at the current Exception level (R305). -/
def accessEvent (q : AccessReq) (higher el2 : Bool) (s : State) : Out :=
  match accessOutcome s.view higher el2 (s.accessRecord q) with
  | .proceeds => .next (s.announce .proceeds)
  | .otherException => .next (s.announce .otherException)
  | .trap ec => s.draw.handOver (raiseTrapToEL3 ec)

/-- One host event. -/
def hostEvent (ev : HostEvent) (s : State) : Out :=
  match ev with
  | .coldReset r => .next (s.coldReset r)
  | .warmReset r => .next (s.warmReset r)
  | .contextSync => .next s.contextSync
  | .exceptionEntry e => .next (s.enterException e)
  | .exceptionReturn e => .next (s.returnException e)
  | .debugEntry => .next { s with env := { s.env with halted := true } }
  | .debugExit => .next { s.contextSync with env := { s.env with halted := false } }
  | .inputs env => .next (s.setInputs env)
  | .hostRegisters x nzcv pc => .next { s with x := x, nzcv := nzcv, pc := pc }
  | .access q higher el2 => accessEvent q higher el2 s
  | .query q => .next (s.announce (answerQuery s.view q))
  | .traceData x => .next { s.draw with env := traceDataEnv s.view x }
  | .profilingData x => .next { s.draw with env := profilingDataEnv s.view x }

end Sys2Proof.Machine
end

