-- ==== Sys2Proof/Decode.lean ====
section
/-! DEFINITION. Decoding and encoding of the two accessors (30_encoding.md), and the two host-named
entries to the decoder. -/

namespace Sys2Proof

open Machine (DecodeError)

/-- The bits that are fixed in both encodings (R123). -/
def accessorMask : InsnWord := 0xFFFFFFE0

/-- The fixed bits of `MRS <Xt>, MDCR_EL3` (R123). -/
def mrsMatch : InsnWord := 0xD53E1320

/-- The fixed bits of `MSR MDCR_EL3, <Xt>` (R123). -/
def msrMatch : InsnWord := 0xD51E1320

/-- `t = w[4:0]`, unsigned, used as is (R124). -/
def rtOf (w : InsnWord) : BitVec 5 := w.extractLsb' 0 5

/-- Decode one instruction word (R123). Every word but the two patterns is outside this spec. -/
def decodeWord (w : InsnWord) : Except DecodeError Instr :=
  if w &&& accessorMask = mrsMatch then .ok (.mrs (rtOf w))
  else if w &&& accessorMask = msrMatch then .ok (.msr (rtOf w))
  else .error .outsideSpec

/-- A word from its bytes in ascending address order: little-endian (R105). -/
def wordOfBytes (b0 b1 b2 b3 : Byte) : InsnWord := b3 ++ b2 ++ b1 ++ b0

/-- The bytes of a word in ascending address order (R105). -/
def bytesOfWord (w : InsnWord) : List Byte :=
  [w.extractLsb' 0 8, w.extractLsb' 8 8, w.extractLsb' 16 8, w.extractLsb' 24 8]

/-- Decode bytes: the instruction and the bytes after it. -/
def decode : List Byte → Except DecodeError (Instr × List Byte)
  | b0 :: b1 :: b2 :: b3 :: rest =>
    match decodeWord (wordOfBytes b0 b1 b2 b3) with
    | .ok i => .ok (i, rest)
    | .error e => .error e
  | _ => .error .truncated

/-- The System-register-move word of R122: `0xD5000000 | (L << 21) | (op0 << 19) | (op1 << 16) |
(CRn << 12) | (CRm << 8) | (op2 << 5) | Rt`. -/
def sysMoveWord (L : BitVec 1) (op0 : BitVec 2) (op1 : BitVec 3) (CRn CRm : BitVec 4) (op2 : BitVec 3)
    (Rt : BitVec 5) : InsnWord :=
  0xD5000000 ||| (L.setWidth 32 <<< 21) ||| (op0.setWidth 32 <<< 19) ||| (op1.setWidth 32 <<< 16)
    ||| (CRn.setWidth 32 <<< 12) ||| (CRm.setWidth 32 <<< 8) ||| (op2.setWidth 32 <<< 5) ||| Rt.setWidth 32

/-- The System register encoding of MDCR_EL3 (R121) with direction `L` and register `t`. -/
def mdcrWord (L : BitVec 1) (t : BitVec 5) : InsnWord := sysMoveWord L 0b11 0b110 0b0001 0b0011 0b001 t

/-- The word of an instruction (R122). -/
def encode : Instr → InsnWord
  | .mrs t => mdcrWord 1 t
  | .msr t => mdcrWord 0 t

/-- The instruction the decoder reads from a table row's bits: `w` laid out as a 32-bit word, every bit
above `nbits` zero, in little-endian bytes. -/
def decodeTableWord (nbits w : Nat) : Option Instr :=
  match decode (bytesOfWord (BitVec.ofNat 32 (w % 2 ^ nbits))) with
  | .ok (i, _) => some i
  | .error _ => none

/-- The assembler spelling of `<Xt>` (R129). -/
def asmReg (t : BitVec 5) : String := if t = 31 then "XZR" else "X" ++ toString t.toNat

/-- The assembler text of an instruction (R129). -/
def asmOf : Instr → String
  | .mrs t => "MRS " ++ asmReg t ++ ", MDCR_EL3"
  | .msr t => "MSR MDCR_EL3, " ++ asmReg t

/-- The generic name of the System register, `S<op0>_<op1>_C<CRn>_C<CRm>_<op2>` (R129). -/
def genericName (op0 : BitVec 2) (op1 : BitVec 3) (CRn CRm : BitVec 4) (op2 : BitVec 3) : String :=
  "S" ++ toString op0.toNat ++ "_" ++ toString op1.toNat ++ "_C" ++ toString CRn.toNat ++ "_C"
    ++ toString CRm.toNat ++ "_" ++ toString op2.toNat

end Sys2Proof
end

