-- ==== Sys2Proof/Machine/Fetch.lean ====
section
/-! DEFINITION. Fetching the instruction at the pc from the host's memory (R22, R105, R106; log entries 7,
11), and laying an instruction there. -/

namespace Sys2Proof.Machine

/-- What the fetch finds. -/
inductive Fetched where
  | instr (i : Instr)
  | fault (f : Fault)
  | refused (r : Refusal)
  deriving DecidableEq, Repr

/-- Fetch and decode the instruction at the pc. -/
def fetch (s : State) : Fetched :=
  if s.pc.toNat % 4 ≠ 0 then .refused .misalignedPc
  else
    match Memory.readBytes s.mem s.pc 4 with
    | none => .fault .noInstruction
    | some bs =>
      match decode bs with
      | .ok (i, _) => .instr i
      | .error e => .refused (.notAnAccessor e)

/-- Lay the word `w` at the pc, with no host event before it. -/
def State.placeWord (s : State) (w : InsnWord) : State :=
  { s with mem := Memory.writeBytes s.mem s.pc (bytesOfWord w), inbox := [] }

/-- One instruction step: the fetched accessor runs, and an exception it raises goes to the host. -/
def instrStep (s : State) (run : Instr → State → Out) : Out :=
  match fetch s with
  | .instr i => s.handOver (run i s)
  | .fault f => .fault f
  | .refused r => .refused r

end Sys2Proof.Machine
end

