-- ==== Sys2Proof/Machine/Step.lean ====
section
/-! DEFINITION. One step: the oldest pending host event, or else the instruction at the pc. -/

namespace Sys2Proof.Machine

/-- One step of the machine (R18). -/
def step (s : State) : Host.Outcome State Fault Refusal :=
  match s.inbox with
  | ev :: rest => hostEvent ev { s with inbox := rest }
  | [] => instrStep s exec

/-- The state with an instruction's bits stored where the next step fetches: the four bytes at the pc, and
no pending host event (log entry 7). -/
def State.withFetchWord (s : State) (nbits w : Nat) : State :=
  s.placeWord (BitVec.ofNat 32 (w % 2 ^ nbits))

end Sys2Proof.Machine
end

