-- ==== Sys2Proof/Safety.lean ====
section
/-! DEFINITION. What every state keeps, what an accessor needs to run, and which outcomes the spec itself gives. -/

namespace Sys2Proof.Machine

/-- Only bits that a write or a reset can store are set (R29, R141, R342), only fields that reset to UNKNOWN
are marked UNKNOWN (R75, R343), and a register that does not exist holds nothing (R127). -/
def Stored.withinKept (c : Config) (m : Stored) : Prop :=
  m.bits &&& ~~~(keepMask c) = 0 ∧ m.unknown &&& ~~~(auMask &&& implMask c) = 0 ∧
  (registerExists c = false → m = .absent)

/-- The invariant: the host's memory is canonical, MDCR_EL3 and its shadow hold only storable bits. -/
def State.Inv (s : State) : Prop :=
  Memory.wf s.mem = true ∧ s.mdcr.withinKept s.cfg ∧ s.mdcrEff.withinKept s.cfg

/-- What an accessor needs to run: the register exists, PSTATE.EL is EL3, and the pc is not the refused one
(R22, R140, R141). -/
def State.Ready (s : State) : Prop := registerExists s.cfg = true ∧ s.el = .EL3 ∧ s.pc ≠ pcTop

/-- Change the next state of an outcome; a fault or a refusal stays. -/
def mapNext (f : State → State) (o : Out) : Out :=
  match o with
  | .next s => .next (f s)
  | .fault r => .fault r
  | .refused r => .refused r

/-- The state with the contents of MDCR_EL3 and its shadow blotted out. -/
def State.blind (s : State) : State := { s with mdcr := ⟨0, 0, 0⟩, mdcrEff := ⟨0, 0, 0⟩ }

/-- The outcomes R18 gives an accessor: it completes, it raises an exception event, or it is refused at the
top of the address space (R22). -/
def specOutcome (o : Out) : Prop :=
  (∃ t, o = .next t) ∨ o = .fault .undefined ∨ (∃ ec, o = .fault (.trapToEL3 ec)) ∨ o = .refused .pcWrap

end Sys2Proof.Machine
end

