-- ==== Sys2Proof/WellFormed.lean ====
section
/-! DEFINITION. What makes an instruction, a configuration, an access record well formed. -/

namespace Sys2Proof

open Machine

/-- Every instruction is well formed: all 32 values of `Rt` are accepted (R125). -/
def Instr.wellFormed : Instr → Bool
  | .mrs _ => true
  | .msr _ => true

/-- Is the Security state one this configuration implements (R207's "implemented Security state")? Secure
needs `HaveSecureState()`, Realm and Root need FEAT_RME (R318). -/
def secStateImplemented (c : Config) : SecState → Bool
  | .Secure => c.haveSecureState
  | .NonSecure => true
  | .Realm => c.FEAT_RME
  | .Root => c.FEAT_RME

/-- A buffer unit's choice picks an implemented Security state (R207, R246). The rules do not say whether Root, the
state of EL3 with FEAT_RME (R318), is one of those meant. DESIGN CHOICE (log entry 22): it is admitted, and a statement
over every configuration holds either way. -/
def ReservedOwner.wellFormed (c : Config) : ReservedOwner → Bool
  | .AsDisabled => true
  | .DropAndEvent => true
  | .PickOwner s => secStateImplemented c s

/-- RES0 storage is disjoint from the implemented fields (R29). -/
def Config.res0Disjoint (c : Config) : Bool := c.RES0_STORAGE_MASK &&& implMask c == 0

/-- A configuration the spec admits: the register exists (R10, D26), RES0 storage is disjoint from the fields
(R29), and the two CONSTRAINED UNPREDICTABLE choices pick implemented states (R207, R246). -/
def Config.wellFormed (c : Config) : Bool :=
  registerExists c && c.res0Disjoint && c.CU_NSTB_RESERVED.wellFormed c && c.CU_NSPB_RESERVED.wellFormed c

/-- Is the instruction one of its Execution state (R17)? -/
def AccessInstr.inState : AccessInstr → ExecState → Bool
  | .MRS, st => st == .AArch64
  | .MSR, st => st == .AArch64
  | .SYS, st => st == .AArch64
  | .MRC, st => st == .AArch32
  | .MCR, st => st == .AArch32
  | .MRRC, st => st == .AArch32
  | .MCRR, st => st == .AArch32
  | .LDC, st => st == .AArch32
  | .STC, st => st == .AArch32

/-- An access record is well formed: its instruction belongs to its Execution state, an AArch32 coproc is
one of the source's two (R17), no access below EL3 is in Root state (R203), and no access is at EL2 when
EL2 is absent (R317). -/
def Access.wellFormed (c : Config) (a : Access) : Bool :=
  a.instr.inState a.state
    && (a.state == .AArch64 || a.coproc == 0b1110 || a.coproc == 0b1111)
    && (a.el == .EL3 || !(a.ss == .Root))
    && (c.haveEL2 || !(a.el == .EL2))

end Sys2Proof
end

