-- ==== Sys2Proof/Certificates/Slice0/Obligations.lean ====
section
/-! DEFINITION. The statements for the provers. Each docstring names the rule of spec/ it follows, or says
that it is the model's own choice and names the log entry. -/

open Sys2Proof Sys2Proof.Machine

/-! ## Encoding -/

/-- Decode and encode agree on every instruction, both ways; a word's bytes lie little-endian, as R105 says for the
host's fetch, decoding and encoding alike; the opcode table's numbering of an instruction's bits reads as that
instruction (R105, R122, R123). -/
def Obligations.DecodeAndEncodeAgree : Prop :=
  (∀ i : Instr, i.wellFormed = true →
    (∀ rest : List Byte, decode (bytesOfWord (encode i) ++ rest) = .ok (i, rest)) ∧
    (∀ w : InsnWord, decodeWord w = .ok i ↔ w = encode i) ∧
    decodeTableWord 32 (encode i).toNat = some i) ∧
  (∀ (w : InsnWord) (b0 b1 b2 b3 : Byte),
    bytesOfWord w = [b0, b1, b2, b3] ↔
      w.toNat = b0.toNat + 2 ^ 8 * b1.toNat + 2 ^ 16 * b2.toNat + 2 ^ 24 * b3.toNat) ∧
  (∀ (b0 b1 b2 b3 : Byte) (rest : List Byte) (i : Instr),
    decode (b0 :: b1 :: b2 :: b3 :: rest) = .ok (i, rest) ↔
      (encode i).toNat = b0.toNat + 2 ^ 8 * b1.toNat + 2 ^ 16 * b2.toNat + 2 ^ 24 * b3.toNat)

/-- A word is an accessor exactly when its fixed bits match, and every other word is refused (R123); the word of an
instruction has R122's format, field by field, and R122's two values. -/
def Obligations.DecodesExactlyTheTwoPatterns : Prop :=
  (∀ (w : InsnWord) (t : BitVec 5),
    (decodeWord w = .ok (.mrs t) ↔ w &&& 0xFFFFFFE0 = 0xD53E1320 ∧ t = w.extractLsb' 0 5) ∧
    (decodeWord w = .ok (.msr t) ↔ w &&& 0xFFFFFFE0 = 0xD51E1320 ∧ t = w.extractLsb' 0 5)) ∧
  (∀ w : InsnWord, decodeWord w = .error .outsideSpec ↔
    w &&& 0xFFFFFFE0 ≠ 0xD53E1320 ∧ w &&& 0xFFFFFFE0 ≠ 0xD51E1320) ∧
  (0xD53E1320#32 ^^^ 0xD51E1320#32 = 1#32 <<< 21) ∧
  (∀ i : Instr,
    (encode i).extractLsb' 22 10 = 0b1101010100#10 ∧
    (encode i).extractLsb' 19 2 = 0b11#2 ∧
    (encode i).extractLsb' 16 3 = 0b110#3 ∧
    (encode i).extractLsb' 12 4 = 0b0001#4 ∧
    (encode i).extractLsb' 8 4 = 0b0011#4 ∧
    (encode i).extractLsb' 5 3 = 0b001#3) ∧
  (∀ t : BitVec 5,
    (encode (.mrs t)).extractLsb' 21 1 = 1#1 ∧ (encode (.mrs t)).extractLsb' 0 5 = t ∧
    (encode (.msr t)).extractLsb' 21 1 = 0#1 ∧ (encode (.msr t)).extractLsb' 0 5 = t ∧
    encode (.mrs t) = 0xD53E1320#32 ||| t.setWidth 32 ∧
    encode (.msr t) = 0xD51E1320#32 ||| t.setWidth 32)

/-- Words of 95_test_vectors.md 2.1 decode as its table says. -/
def Obligations.TableWordsDecode : Prop :=
  decodeWord 0xD53E1320 = .ok (.mrs 0) ∧ decodeWord 0xD53E132F = .ok (.mrs 15) ∧
  decodeWord 0xD53E133F = .ok (.mrs 31) ∧ decodeWord 0xD51E1321 = .ok (.msr 1) ∧
  decodeWord 0xD51E133E = .ok (.msr 30) ∧ decodeWord 0xD53E1340 = .error .outsideSpec ∧
  decodeWord 0xD5361320 = .error .outsideSpec ∧ decodeWord 0 = .error .outsideSpec

/-! ## The step -/

/-- A step with no pending host event runs the decoded instruction and hands its exception to the host
(R18, D10; log entries 7 and 16 for the fetch and the host's entries). -/
def Obligations.StepRunsTheDecodedInstruction : Prop :=
  ∀ (s : State) (i : Instr) (bs rest : List Byte), i.wellFormed = true → s.inbox = [] →
    s.pc.toNat % 4 = 0 → Memory.readBytes s.mem s.pc 4 = some bs → decode bs = .ok (i, rest) →
    (∀ t, exec i s = .next t → step s = .next t) ∧
    (∀ r, exec i s = .refused r → step s = .refused r) ∧
    (exec i s = .fault .undefined →
      step s = (match s.env.undefinedEntry with
        | none => .fault .undefined
        | some e => .next (s.takeUndefined e))) ∧
    (∀ ec, exec i s = .fault (.trapToEL3 ec) →
      step s = (match s.env.trapEntry with
        | none => .fault (.trapToEL3 ec)
        | some e => .next (s.takeTrapToEL3 ec e)))

/-- An instruction laid where the step fetches is the one the very next step runs, and laying it changes only
the four bytes at the pc and the pending events (log entry 7: the model's choice). -/
def Obligations.PlacedWordRunsNext : Prop :=
  ∀ (s : State) (i : Instr), s.pc.toNat % 4 = 0 →
    step (s.withFetchWord 32 (encode i).toNat) =
      (s.withFetchWord 32 (encode i).toNat).handOver (exec i (s.withFetchWord 32 (encode i).toNat)) ∧
    s.withFetchWord 32 (encode i).toNat =
      { s with mem := (s.withFetchWord 32 (encode i).toNat).mem, inbox := [] } ∧
    ∀ a : Nat, (∀ j < 4, a ≠ (s.pc + BitVec.ofNat 64 j).toNat) →
      Memory.read (s.withFetchWord 32 (encode i).toNat).mem a = Memory.read s.mem a

/-- What a step does when it runs no accessor: a pending host event comes first, the oldest of them (log entry 19:
the model's choice); with none, where no accessor lies at the pc, it stops under a name of its own (log entries 7,
11: the model's choice; R123 puts other words outside the spec). -/
def Obligations.StepWithoutAnAccessor : Prop :=
  (∀ (s : State) (ev : HostEvent) (rest : List HostEvent), s.inbox = ev :: rest →
    step s = hostEvent ev { s with inbox := rest }) ∧
  ∀ s : State, s.inbox = [] →
    (s.pc.toNat % 4 ≠ 0 → step s = .refused .misalignedPc) ∧
    (s.pc.toNat % 4 = 0 → Memory.readBytes s.mem s.pc 4 = none → step s = .fault .noInstruction) ∧
    (∀ bs e, s.pc.toNat % 4 = 0 → Memory.readBytes s.mem s.pc 4 = some bs → decode bs = .error e →
      step s = .refused (.notAnAccessor e))

/-! ## The accessors -/

/-- `MRS` completes and its whole effect (R140, R21, R22): X[t] takes MDCR_EL3, with t = 31 discarded; the pc
advances by 4; nothing else changes but the model's draw counter (log entry 1). With `UNKNOWN_STABLE` the
value is the stored one (R343), else bits still UNKNOWN are drawn. -/
def Obligations.MrsReadsTheRegister : Prop :=
  ∀ (t : BitVec 5) (s : State), s.Ready →
    ∃ v : Word,
      exec (.mrs t) s = .next { s with
        x := if h : t.toNat < 31 then s.x.set t.toNat v h else s.x, pc := s.pc + 4,
        draws := s.draws + 1 } ∧
      (s.cfg.UNKNOWN_STABLE = true → v = s.mdcr.bits) ∧
      v &&& ~~~s.mdcr.unknown = s.mdcr.bits &&& ~~~s.mdcr.unknown

/-- `MSR` completes and its whole effect (R141, R29, R31): MDCR_EL3 takes X[t] (0 for t = 31) without its RES0
bits; only bits of fields that hold a reserved encoding may differ, and none does under AsWritten; no bit is
UNKNOWN after it; the pc advances by 4; nothing else changes, the shadow least of all (R108), but the model's
draw counter (log entry 1). The number of the draw that fixes a reserved PMEE's behaviour is kept while PMEE goes on
holding 0b10, else it is this write's own (D24; log entry 20: the model's choice). -/
def Obligations.MsrWritesTheRegister : Prop :=
  ∀ (t : BitVec 5) (s : State), s.Ready → (s.cfg.FEAT_FGWTE3 && s.env.fgwte3) = false →
    ∃ m : Stored,
      exec (.msr t) s = .next { s with mdcr := m, pc := s.pc + 4, draws := s.draws + 1 } ∧
      m.unknown = 0 ∧
      (let u := (if h : t.toNat < 31 then s.x[t.toNat] else 0) &&& (implMask s.cfg ||| s.cfg.RES0_STORAGE_MASK)
       m.bits &&& ~~~reservedMask s.cfg u = u &&& ~~~reservedMask s.cfg u ∧
       (s.cfg.RESERVED_READBACK = .AsWritten ∨ reservedMask s.cfg u = 0 → m.bits = u)) ∧
      m.choice = (if fieldOf .PMEE s.mdcr.bits = 2 ∧ fieldOf .PMEE m.bits = 2 then s.mdcr.choice else s.draws)

/-- The UNDEFINED cases are the four of R125 and no other, for every Rt. -/
def Obligations.AccessorsUndefinedExactlyBelowEL3 : Prop :=
  ∀ (i : Instr) (s : State), s.pc ≠ pcTop →
    (exec i s = .fault .undefined ↔
      (s.cfg.haveEL3 && s.cfg.FEAT_AA64) = false ∨ s.el = .EL0 ∨ s.el = .EL1 ∨ s.el = .EL2)

/-- The FGWTE3 lock (R304): a locked `MSR` at EL3 traps with EC 0x18 and the host's entry leaves MDCR_EL3
alone; below EL3 the instruction is UNDEFINED whatever the lock holds; `MRS` is never trapped. -/
def Obligations.WriteLockTrapsMsrOnly : Prop :=
  ∀ (t : BitVec 5) (s : State), s.pc ≠ pcTop → registerExists s.cfg = true →
    (s.el = .EL3 → s.cfg.FEAT_FGWTE3 = true → s.env.fgwte3 = true →
      exec (.msr t) s = .fault (.trapToEL3 0x18) ∧
      ∀ u, s.handOver (exec (.msr t) s) = .next u → u.mdcr = s.mdcr ∧ u.el = .EL3) ∧
    (∀ ec, exec (.msr t) s = .fault (.trapToEL3 ec) →
      ec = 0x18 ∧ s.el = .EL3 ∧ s.cfg.FEAT_FGWTE3 = true ∧ s.env.fgwte3 = true) ∧
    (s.el ≠ .EL3 → exec (.msr t) s = .fault .undefined) ∧
    (∀ ec, exec (.mrs t) s ≠ .fault (.trapToEL3 ec))

/-- An accessor is refused at the top of the address space, and nowhere else (R22, D13; that this refusal
comes before the other checks is log entry 10). -/
def Obligations.AccessorsRefusedOnlyAtTheTop : Prop :=
  ∀ (i : Instr) (s : State),
    (s.pc = 0xFFFFFFFFFFFFFFFC → exec i s = .refused .pcWrap) ∧
    (∀ r, exec i s = .refused r → r = .pcWrap ∧ s.pc = 0xFFFFFFFFFFFFFFFC)

/-- An accessor has one of R18's outcomes, and one that completes falls through to pc + 4 (R18, R145). -/
def Obligations.AccessorsFallThrough : Prop :=
  ∀ (i : Instr) (s : State), specOutcome (exec i s) ∧ ∀ t, exec i s = .next t → t.pc = s.pc + 4

/-- Read after write: whatever ran between, if it neither reset nor wrote the register, an `MRS` returns what the
`MSR` stored, under either SYNC_MODEL (R109): the value written, on every field that holds no reserved encoding, no
RES0 bit that is not storage, and under CFG_ALL a fully defined value masked (R142). A fully defined value is stored
as it is, under any readback (R77, R141). -/
def Obligations.ReadAfterWriteReturnsTheFields : Prop :=
  (∀ (a : BitVec 5) (s s1 : State), exec (.msr a) s = .next s1 → fullyDefined s.cfg (s.readX a) = true →
    s1.mdcr.bits = s.readX a) ∧
  ∀ (a b : BitVec 5) (s s1 s2 s3 : State), exec (.msr a) s = .next s1 → s2.mdcr = s1.mdcr →
    s2.cfg = s1.cfg → exec (.mrs b) s2 = .next s3 → b ≠ 31 →
    s3.readX b = s1.mdcr.bits ∧
    (∀ f, impl s.cfg f = true → holdsReserved s.cfg (s.readX a) f = false →
      fieldOf f (s3.readX b) = fieldOf f (s.readX a)) ∧
    s3.readX b &&& res0Mask s.cfg &&& ~~~s.cfg.RES0_STORAGE_MASK = 0 ∧
    (s.cfg = cfgAll → fullyDefined cfgAll (s.readX a) = true →
      s3.readX b = s.readX a &&& 0x00FFFFFFDFFFFEDD)

/-- The last write wins, and writing back what was read changes nothing (R143): the second of two `MSR` stores
what it would store alone, but for fields it writes a reserved encoding to, which `RESERVED_READBACK = Any` draws
afresh (R31); and `MRS Xn` then `MSR Xn` leaves the bits as they are when no field holds a reserved encoding and
reads are stable. -/
def Obligations.LastWriteWins : Prop :=
  (∀ (a b : BitVec 5) (s s1 s2 t : State),
    exec (.msr a) s = .next s1 → exec (.msr b) s1 = .next s2 → exec (.msr b) s = .next t →
    s2.mdcr.bits &&& ~~~reservedMask s.cfg (s.readX b) = t.mdcr.bits &&& ~~~reservedMask s.cfg (s.readX b) ∧
    (s.cfg.RESERVED_READBACK = .AsWritten ∨ reservedMask s.cfg (s.readX b) = 0 → s2.mdcr.bits = t.mdcr.bits) ∧
    s2.mdcr.unknown = t.mdcr.unknown) ∧
  (∀ (n : BitVec 5) (s s1 s2 : State), n ≠ 31 → s.cfg.UNKNOWN_STABLE = true → s.mdcr.withinKept s.cfg →
    reservedMask s.cfg s.mdcr.bits = 0 → exec (.mrs n) s = .next s1 → exec (.msr n) s1 = .next s2 →
    s2.mdcr.bits = s.mdcr.bits)

/-- XZR as the operand (R149, R21): `MRS XZR` changes nothing but the pc (and the model's draw counter);
`MSR XZR` clears the register, wherever zero holds no reserved encoding or readback is AsWritten; elsewhere it
clears every field but those that then hold one (R31). -/
def Obligations.ZeroRegisterForms : Prop :=
  ∀ s : State, s.Ready →
    exec (.mrs 31) s = .next { s with pc := s.pc + 4, draws := s.draws + 1 } ∧
    ((s.cfg.FEAT_FGWTE3 && s.env.fgwte3) = false →
      ∃ b k, exec (.msr 31) s =
        .next { s with mdcr := ⟨b, 0, k⟩, pc := s.pc + 4, draws := s.draws + 1 } ∧
        b &&& ~~~reservedMask s.cfg 0 = 0 ∧
        (s.cfg.RESERVED_READBACK = .AsWritten ∨ reservedMask s.cfg 0 = 0 → b = 0))

/-- Debug state changes nothing of an accessor (R148), nor does the Security state (R140). -/
def Obligations.AccessorsIgnoreDebugAndSecurityState : Prop :=
  ∀ (i : Instr) (s : State) (h : Bool) (ss : SecState),
    exec i { s with env := { s.env with halted := h, ss := ss } } =
      mapNext (fun u => { u with env := { u.env with halted := h, ss := ss } }) (exec i s)

/-! ## The whole machine -/

/-- Every step keeps the invariant: canonical memory, no bit of MDCR_EL3 or its shadow set that cannot be
stored (R29, R141, R342), no field marked UNKNOWN that does not reset so (R75), and nothing in a register that does
not exist (R127; that State has places for it is log entry 28). The memory and its form are the model's choice (log
entry 7). -/
def Obligations.StepKeepsTheInvariant : Prop :=
  ∀ s t : State, s.Inv → step s = .next t → t.Inv

/-- The invariant holds at reset (R75, R342); that memory then lists nothing is the model's choice (log entry 7). -/
def Obligations.InvariantHoldsAtReset : Prop := State.reset.Inv

/-- No step changes the parameters or any byte of memory. The accessors make no memory access (R100). The model's
choices: that there is a memory, the host's (log entry 7), that no host event writes it or a parameter, be it exception
entry or return (log entry 16), reset (log entry 32) or any other (log entries 7 and 19), and that the parameters
stand in State (log entry 6). -/
def Obligations.StepChangesNoParameterAndNoMemory : Prop :=
  ∀ s t : State, step s = .next t →
    t.cfg = s.cfg ∧ ∀ a : Nat, Memory.read t.mem a = Memory.read s.mem a

/-- MDCR_EL3 changes only by `MSR` at EL3 and by reset (R20, R30, R317). -/
def Obligations.OnlyMsrAtEL3AndResetWriteTheRegister : Prop :=
  ∀ s t : State, step s = .next t → t.mdcr ≠ s.mdcr →
    (∃ r rest, s.inbox = .coldReset r :: rest ∨ s.inbox = .warmReset r :: rest) ∨
    (s.inbox = [] ∧ s.el = .EL3 ∧ s.writeLocked = false ∧
      ∃ n bs rest, Memory.readBytes s.mem s.pc 4 = some bs ∧ decode bs = .ok (.msr n, rest))

/-- Below EL3 an instruction step learns nothing of MDCR_EL3 or its shadow (R147, R317): two states that
differ only there step to the same stop, or to states that differ only there. -/
def Obligations.LowerLevelsLearnNothing : Prop :=
  ∀ (s : State) (m e : Stored), s.inbox = [] → s.el ≠ .EL3 →
    mapNext State.blind (step { s with mdcr := m, mdcrEff := e }) = mapNext State.blind (step s)

/-! ## Ordering -/

/-- When a write takes effect (R108): what a unit asks is answered from the state's view, whose 64 bits are the
value in force: MDCR under Immediate, the shadow or MDCR under UntilCSE (bits still UNKNOWN are drawn where
UNKNOWN_STABLE is false: R343, log entry 14). `MSR` leaves the shadow; each context synchronization event (ISB-like,
exception entry, exception return, exit from Debug state) and reset load it, new inputs do when they end Debug state
(log entry 15), other events leave it; then both models agree; a direct read never uses it. That a query changes
nothing but the answer and the model's draw counter is log entries 19 and 1. -/
def Obligations.IndirectReadersFollowTheSyncModel : Prop :=
  (∀ s : State, (s.cfg.SYNC_MODEL = .Immediate → s.inForce = s.mdcr) ∧
    (s.cfg.SYNC_MODEL = .UntilCSE → s.inForce = s.mdcrEff ∨ s.inForce = s.mdcr) ∧
    (s.mdcrEff = s.mdcr → s.inForce = s.mdcr) ∧
    s.view.cfg = s.cfg ∧ s.view.env = s.env ∧ s.view.el = s.el ∧ s.view.choice = s.inForce.choice ∧
    s.view.bits &&& ~~~s.inForce.unknown = s.inForce.bits &&& ~~~s.inForce.unknown ∧
    (s.cfg.UNKNOWN_STABLE = true → s.view.bits = s.inForce.bits)) ∧
  (∀ (s : State) (q : Query), hostEvent (.query q) s =
    .next { s with answer := some (answerQuery s.view q), draws := s.draws + 1 }) ∧
  (∀ (n : BitVec 5) (s t : State), exec (.msr n) s = .next t →
    t.mdcrEff = s.mdcrEff ∧ t.readMDCR = t.mdcr.bits) ∧
  (∀ (s t : State) (ev : HostEvent), hostEvent ev s = .next t →
    (ev = .contextSync ∨ (∃ e, ev = .exceptionEntry e) ∨ (∃ e, ev = .exceptionReturn e) ∨ ev = .debugExit →
      t.mdcr = s.mdcr ∧ t.mdcrEff = s.mdcr) ∧
    ((∃ r, ev = .coldReset r ∨ ev = .warmReset r) → t.mdcrEff = t.mdcr) ∧
    (∀ env, ev = .inputs env → t.env = env ∧ t.mdcr = s.mdcr ∧
      t.mdcrEff = if s.env.halted = true ∧ env.halted = false then s.mdcr else s.mdcrEff) ∧
    (ev = .debugEntry ∨ (∃ q, ev = .query q) ∨ (∃ x, ev = .traceData x ∨ ev = .profilingData x) ∨
        (∃ x f pc, ev = .hostRegisters x f pc) → t.mdcr = s.mdcr ∧ t.mdcrEff = s.mdcrEff))

/-! ## Exceptions -/

/-- The host's entry on `TrapToEL3` (R314, R303): EL3, MDCR and x unchanged, the shadow loaded, the EC announced.
After `Undefined` (R301) the level is the host's, the source giving none, and MDCR, x and the shadow are as on any
entry (R108; log entry 17). The model's choices: pc and Security state are the host's (log entry 16), the flags stay
(log entries 16 and 29), and so do memory, the parameters, the other inputs and the pending events (log entry 16). -/
def Obligations.TrapEntryGoesToEL3 : Prop :=
  (∀ (s : State) (ec : EC) (e : HostEntry), s.env.trapEntry = some e →
    ∃ t, s.handOver (.fault (.trapToEL3 ec)) = .next t ∧ t.el = .EL3 ∧ t.mdcr = s.mdcr ∧ t.x = s.x ∧
      t.mdcrEff = s.mdcr ∧ t.answer = some (.trapped ec) ∧ t.nzcv = s.nzcv ∧ t.mem = s.mem ∧
      t.cfg = s.cfg ∧ t.pc = e.pc ∧ t.env = { s.env with ss := e.ss } ∧ t.inbox = s.inbox) ∧
  (∀ (s : State) (e : HostEntry), s.env.undefinedEntry = some e →
    ∃ t, s.handOver (.fault .undefined) = .next t ∧ t.el = e.target ∧ t.mdcr = s.mdcr ∧ t.x = s.x ∧
      t.mdcrEff = s.mdcr ∧ t.answer = some .undefinedTaken ∧ t.nzcv = s.nzcv ∧ t.mem = s.mem ∧
      t.cfg = s.cfg ∧ t.pc = e.pc ∧ t.env = { s.env with ss := e.ss } ∧ t.inbox = s.inbox)

/-- The host's return (R315): a context synchronization event. R315 leaves the rest to the host; that MDCR, x, the
flags and memory stay, and that level and address are the host's, is the model's choice (log entry 16; the flags:
log entry 29). -/
def Obligations.ExceptionReturnSynchronizes : Prop :=
  ∀ (s : State) (e : HostEntry),
    ∃ t, hostEvent (.exceptionReturn e) s = .next t ∧ t.mdcr = s.mdcr ∧ t.mdcrEff = s.mdcr ∧ t.x = s.x ∧
      t.nzcv = s.nzcv ∧ t.mem = s.mem ∧ t.el = e.target ∧ t.pc = e.pc

/-! ## Traps of other instructions -/

/-- Controls that match one access agree on its EC, 0x18 for every AArch64 access (R307), as long as the
implementation's own AArch32 TDOSA registers are not registers another control lists. -/
def Obligations.MatchingControlsAgreeOnTheEC : Prop :=
  ∀ (w : View) (el2 : Bool) (a : Access), (∀ r ∈ w.cfg.tdosaExtraA32, r.name = .OTHER) →
    (∀ ec ∈ trapCandidates w el2 a, ∀ ec' ∈ trapCandidates w el2 a, ec = ec') ∧
    (a.state = .AArch64 → ∀ ec ∈ trapCandidates w el2 a, ec = 0x18)

/-- The general trap rule in a step (R305, R309, R303): at EL3 nothing matches; with no match the access proceeds;
with a match under a higher priority exception the host takes that; else the exception goes to EL3 with the EC of a
matching control, MDCR and x unchanged (R314). The model's choices in it: that an access which proceeds, or which the
host's other exception takes, changes only the answer and the draw counter (log entries 19 and 1), and that the
outcome is the fault without, and a next state with, a host entry (log entry 16). -/
def Obligations.AccessesFollowTheTrapRule : Prop :=
  ∀ (s : State) (q : AccessReq) (higher el2 : Bool),
    let cands := trapCandidates s.view el2 (s.accessRecord q)
    (s.el = .EL3 → cands = []) ∧
    (cands = [] → hostEvent (.access q higher el2) s =
      .next { s with answer := some .proceeds, draws := s.draws + 1 }) ∧
    (cands ≠ [] → higher = true → hostEvent (.access q higher el2) s =
      .next { s with answer := some .otherException, draws := s.draws + 1 }) ∧
    (cands ≠ [] → higher = false → ∃ ec ∈ cands,
      (s.env.trapEntry = none → hostEvent (.access q higher el2) s = .fault (.trapToEL3 ec)) ∧
      (∀ e, s.env.trapEntry = some e → ∃ t, hostEvent (.access q higher el2) s = .next t ∧ t.el = .EL3 ∧
        t.mdcr = s.mdcr ∧ t.x = s.x ∧ t.mdcrEff = s.mdcr ∧ t.answer = some (.trapped ec)))

/-- The enables with a stated EC (R160, R167, R169, R171, R173, R175): EnPMS4, EnITE, EnPMSS, EBWE, EnPMS3 and EnTB2
trap MRS and MSR of their registers at EL2 and EL1 with EC 0x18 when the field acts and is 0, and nothing else. -/
def Obligations.EnableControlsTrapWhenZero : Prop :=
  resetClass .EnPMS4 = .warmUnknown ∧
  ∀ (w : View) (a : Access),
    let move : Bool := a.state == .AArch64 && (a.instr == .MRS || a.instr == .MSR) && (a.el == .EL1 || a.el == .EL2)
    trapEnPMS4 w a = (if w.value .EnPMS4 = some 0 ∧ move ∧ a.reg.name = .PMBMAR_EL1 then some 0x18 else none) ∧
    trapEnITE w a = (if w.value .EnITE = some 0 ∧ move ∧
      a.reg.name ∈ [RegName.TRCITECR_EL1, .TRCITECR_EL2, .TRCITECR_EL12] then some 0x18 else none) ∧
    trapEnPMSS w a = (if w.value .EnPMSS = some 0 ∧ move ∧
      (a.reg.name ∈ [RegName.PMCCNTSVR_EL1, .PMEVCNTSVRn_EL1, .PMSSCR_EL1] ∨
        (w.cfg.FEAT_PMUv3_ICNTR = true ∧ a.reg.name = .PMICNTSVR_EL1)) then some 0x18 else none) ∧
    trapEBWE w a = (if w.value .EBWE = some 0 ∧ move ∧ a.reg.name = .MDSELR_EL1 then some 0x18 else none) ∧
    trapEnPMS3 w a = (if w.value .EnPMS3 = some 0 ∧ move ∧ a.reg.name = .PMSDSFR_EL1 then some 0x18 else none) ∧
    trapEnTB2 w a = (if w.value .EnTB2 = some 0 ∧ move ∧ a.reg.name = .TRBMPAM_EL1 then some 0x18 else none)

/-- The four controls whose text names no EC (R162, R164, R165, R177): TRBEE = 0b00 and PMSEE = 0b00 trap TRBSR_EL2
and PMBSR_EL2 at EL2, EnSTEPOP = 0 traps MDSTEPOP_EL1 below EL3 and disables execution from it, EnPMSN = 0 traps
PMSNEVFR_EL1 at EL2 and EL1; nothing else. EC 0x18 is D16's choice (log entry 23). While TRBEE or PMSEE is 0b00 the
host takes HCR_EL2.NV1 at EL1 and HCR_EL2.E2H at EL2 as 0 for TRBSR_EL1 or PMBSR_EL1 (log entry 25). -/
def Obligations.ControlsWithoutAStatedEC : Prop :=
  ∀ (w : View) (a : Access) (r : RegName),
    trapTRBEE w a = (if w.value .TRBEE = some 0 ∧ a.reg.name = .TRBSR_EL2 ∧ a.el = .EL2
      then some 0x18 else none) ∧
    trapPMSEE w a = (if w.value .PMSEE = some 0 ∧ a.reg.name = .PMBSR_EL2 ∧ a.el = .EL2
      then some 0x18 else none) ∧
    trapEnSTEPOP w a = (if w.value .EnSTEPOP = some 0 ∧ a.reg.name = .MDSTEPOP_EL1 ∧ a.el ≠ .EL3
      then some 0x18 else none) ∧
    (stepopDisabled w = true ↔ w.value .EnSTEPOP = some 0) ∧
    trapEnPMSN w a = (if w.value .EnPMSN = some 0 ∧ a.reg.name = .PMSNEVFR_EL1 ∧ (a.el = .EL1 ∨ a.el = .EL2)
      then some 0x18 else none) ∧
    (let ignored := (r = .TRBSR_EL1 ∧ w.value .TRBEE = some 0) ∨ (r = .PMBSR_EL1 ∧ w.value .PMSEE = some 0)
     (nv1For w r = true ↔ w.env.hcrNV1 = true ∧ ¬(ignored ∧ w.el = .EL1)) ∧
     (e2hFor w r = true ↔ w.env.hcrE2H = true ∧ ¬(ignored ∧ w.el = .EL2)))

/-- TDCC (R202): which accesses below EL3 are trapped with each EC; in Debug state the data transfer registers
are not; TDCC resets to UNKNOWN. -/
def Obligations.DccTrapsSpareDebugState : Prop :=
  resetClass .TDCC = .warmUnknown ∧
  ∀ (w : View) (a : Access),
    (trapTDCC w a = some 0x18 ↔ w.value .TDCC = some 1 ∧ a.el ≠ .EL3 ∧
      a.state = .AArch64 ∧ (a.instr = .MRS ∨ a.instr = .MSR) ∧
      (a.reg.name ∈ [RegName.OSDTRRX_EL1, .OSDTRTX_EL1, .MDCCSR_EL0, .MDCCINT_EL1] ∨
        (a.halted = false ∧ a.reg.name ∈ [RegName.DBGDTR_EL0, .DBGDTRRX_EL0, .DBGDTRTX_EL0]))) ∧
    (trapTDCC w a = some 0x05 ↔ w.value .TDCC = some 1 ∧ a.el ≠ .EL3 ∧
      a.state = .AArch32 ∧ (a.instr = .MRC ∨ a.instr = .MCR) ∧ a.coproc = 0b1110 ∧
      (a.reg.name ∈ [RegName.DBGDTRRXext, .DBGDTRTXext, .DBGDSCRint, .DBGDCCINT] ∨
        (a.halted = false ∧ a.reg.name ∈ [RegName.DBGDTRRXint, .DBGDTRTXint]))) ∧
    (trapTDCC w a = some 0x06 ↔ w.value .TDCC = some 1 ∧ a.el ≠ .EL3 ∧
      a.state = .AArch32 ∧ a.halted = false ∧
      ((a.instr = .LDC ∧ a.reg.name = .DBGDTRTXint) ∨ (a.instr = .STC ∧ a.reg.name = .DBGDTRRXint))) ∧
    (∀ ec, trapTDCC w a = some ec → ec = 0x18 ∨ ec = 0x05 ∨ ec = 0x06)

/-- TDOSA (R248 to R251, R308): when 1 it traps, at EL2 and EL1 only and unless the EL2 control traps the access,
the powerdown registers: OSDLR by variant, and those the implementation adds; when 0 nothing. The field always
exists and resets to UNKNOWN. The ECs are R248's; in variant 2, and for the implementation's own AArch32 registers,
they are D16's choice (log entry 23). -/
def Obligations.TdosaYieldsToEL2 : Prop :=
  resetClass .TDOSA = .warmUnknown ∧
  ∀ (w : View) (el2 : Bool) (a : Access),
    (registerExists w.cfg = true → w.value .TDOSA = some (fieldOf .TDOSA w.bits)) ∧
    trapTDOSA w el2 a =
      if w.value .TDOSA = some 1 ∧ (a.el = .EL1 ∨ a.el = .EL2) ∧ el2 = false then
        if a.state = .AArch64 ∧ (a.reg.name ∈ [RegName.OSLAR_EL1, .OSLSR_EL1, .DBGPRCR_EL1] ∨
            (a.reg.name = .OSDLR_EL1 ∧ (w.cfg.FEAT_DoubleLock = true ∨ w.cfg.IMPDEF_TDOSA_TRAPS_OSDLR = true)) ∨
            a.reg ∈ w.cfg.tdosaExtraA64) then some 0x18
        else if a.state = .AArch32 ∧ (a.instr = .MRC ∨ a.instr = .MCR) ∧
            (a.reg.name ∈ [RegName.DBGOSLAR, .DBGOSLSR, .DBGPRCR] ∨
            (a.reg.name = .DBGOSDLR ∧ (w.cfg.FEAT_DoubleLock = true ∨ w.cfg.IMPDEF_TDOSA_TRAPS_OSDLR = true)) ∨
            a.reg ∈ w.cfg.tdosaExtraA32) then some 0x05
        else none
      else none

/-- TDA (R252 to R254): when 1 it traps below EL3, with EC 0x18, MRS and MSR of R252's registers and in Non-debug
state the direct DCC moves; with 0x03, 0x05, 0x06 and 0x0C R253's AArch32 accesses, STC and LDC in Debug state too,
the MRC and MCR moves of the DCC in Non-debug state only; nothing else, and when 0 nothing. The field always exists
and resets to UNKNOWN. That 0x05 goes to MRC as to MCR is conflict C1. -/
def Obligations.DebugRegisterTrapsByClass : Prop :=
  resetClass .TDA = .warmUnknown ∧
  ∀ (w : View) (a : Access),
    (registerExists w.cfg = true → w.value .TDA = some (fieldOf .TDA w.bits)) ∧
    (w.value .TDA = none ∨ w.value .TDA = some 0 ∨ a.el = .EL3 → trapTDA w a = none) ∧
    (w.value .TDA = some 1 → a.el ≠ .EL3 →
      (a.state = .AArch64 → trapTDA w a =
        if ((a.instr = .MRS ∨ a.instr = .MSR) ∧
            (a.reg.name ∈ [RegName.DBGAUTHSTATUS_EL1, .DBGBCRn_EL1, .DBGBVRn_EL1, .DBGCLAIMCLR_EL1,
              .DBGCLAIMSET_EL1, .DBGVCR32_EL2, .DBGWCRn_EL1, .DBGWVRn_EL1, .MDCCINT_EL1, .MDCCSR_EL0, .MDCR_EL2,
              .MDRAR_EL1, .MDSCR_EL1, .OSDTRRX_EL1, .OSDTRTX_EL1, .OSECCR_EL1] ∨
            (a.reg.name = .MDSELR_EL1 ∧ w.cfg.FEAT_Debugv8p9 = true ∧
              (16 < w.cfg.NUM_BREAKPOINTS ∨ 16 < w.cfg.NUM_WATCHPOINTS ∨ w.cfg.MDSELR_RAZWI = false ∨
                w.cfg.IMPDEF_TDA_TRAPS_MDSELR = true)) ∨
            (a.reg.name = .MDSTEPOP_EL1 ∧ w.cfg.FEAT_STEP2 = true))) ∨
          (a.halted = false ∧ a.instr = .MRS ∧ (a.reg.name = .DBGDTRRX_EL0 ∨ a.reg.name = .DBGDTR_EL0)) ∨
          (a.halted = false ∧ a.instr = .MSR ∧ (a.reg.name = .DBGDTRTX_EL0 ∨ a.reg.name = .DBGDTR_EL0))
        then some 0x18 else none) ∧
      (a.state = .AArch32 → a.instr = .MRC ∨ a.instr = .MCR → trapTDA w a =
        if a.reg.name ∈ [RegName.DBGAUTHSTATUS, .DBGBCRn, .DBGBVRn, .DBGBXVRn, .DBGCLAIMCLR, .DBGCLAIMSET,
              .DBGDCCINT, .DBGDEVID, .DBGDEVID1, .DBGDEVID2, .DBGDIDR, .DBGDRAR, .DBGDSAR, .DBGDSCRext, .DBGDSCRint,
              .DBGDTRRXext, .DBGDTRTXext, .DBGOSECCR, .DBGVCR, .DBGWCRn, .DBGWFAR, .DBGWVRn, .HDCR, .SDER] ∨
            (a.halted = false ∧ a.instr = .MRC ∧ a.reg.name = .DBGDTRRXint) ∨
            (a.halted = false ∧ a.instr = .MCR ∧ a.reg.name = .DBGDTRTXint)
        then (if a.coproc = 0b1111 then some 0x03 else if a.coproc = 0b1110 then some 0x05 else none)
        else none) ∧
      (a.state = .AArch32 → a.instr ≠ .MRC → a.instr ≠ .MCR → trapTDA w a =
        if (a.instr = .STC ∧ a.reg.name = .DBGDTRRXint) ∨ (a.instr = .LDC ∧ a.reg.name = .DBGDTRTXint)
        then some 0x06
        else if a.instr = .MRRC ∧ (a.reg.name = .DBGDRAR ∨ a.reg.name = .DBGDSAR) then some 0x0C
        else none))

/-- TTRF (R221): which accesses are trapped with each EC; it resets to UNKNOWN. -/
def Obligations.TraceFilterTraps : Prop :=
  resetClass .TTRF = .warmUnknown ∧
  ∀ (w : View) (a : Access),
    (trapTTRF w a = some 0x18 ↔ w.value .TTRF = some 1 ∧ (a.el = .EL1 ∨ a.el = .EL2) ∧
      a.state = .AArch64 ∧ a.reg.name ∈ [RegName.TRFCR_EL2, .TRFCR_EL12, .TRFCR_EL1]) ∧
    (trapTTRF w a = some 0x03 ↔ w.value .TTRF = some 1 ∧ (a.el = .EL1 ∨ a.el = .EL2) ∧
      a.state = .AArch32 ∧ a.reg.name ∈ [RegName.HTRFCR, .TRFCR]) ∧
    (∀ ec, trapTTRF w a = some ec → ec = 0x18 ∨ ec = 0x03)

/-- EnPM2 and TPM (R255, R257): exactly which accesses below EL3 EnPM2 = 0 traps, with EC 0x18, and which TPM = 1
traps, with 0x18 from AArch64 state and 0x03 or 0x04 from AArch32 state; both reset to UNKNOWN. -/
def Obligations.PmuTrapsByClass : Prop :=
  resetClass .EnPM2 = .warmUnknown ∧ resetClass .TPM = .warmUnknown ∧
  ∀ (w : View) (a : Access),
    trapEnPM2 w a = (if w.value .EnPM2 = some 0 ∧ a.state = .AArch64 ∧ a.el ≠ .EL3 ∧
        (((a.instr = .MRS ∨ a.instr = .MSR) ∧
            ((a.reg.name = .PMECR_EL1 ∧ (w.cfg.FEAT_EBEP = true ∨ w.cfg.FEAT_PMUv3_SS = true)) ∨
            (a.reg.name ∈ [RegName.PMICFILTR_EL0, .PMICNTR_EL0] ∧ w.cfg.FEAT_PMUv3_ICNTR = true) ∨
            (a.reg.name = .PMUACR_EL1 ∧ w.cfg.FEAT_PMUv3p9 = true) ∨
            (a.reg.name ∈ [RegName.SPMACCESSR_EL1, .SPMACCESSR_EL2, .SPMACCESSR_EL12, .SPMCFGR_EL1, .SPMCGCRn_EL1,
                .SPMCNTENCLR_EL0, .SPMCNTENSET_EL0, .SPMCR_EL0, .SPMDEVAFF_EL1, .SPMDEVARCH_EL1, .SPMEVCNTRn_EL0,
                .SPMEVFILT2Rn_EL0, .SPMEVFILTRn_EL0, .SPMEVTYPERn_EL0, .SPMIIDR_EL1, .SPMINTENCLR_EL1,
                .SPMINTENSET_EL1, .SPMOVSCLR_EL0, .SPMOVSSET_EL0, .SPMSCR_EL1, .SPMSELR_EL0] ∧
              w.cfg.FEAT_SPMU = true))) ∨
          (a.instr = .MSR ∧ a.reg.name = .SPMZR_EL0 ∧ w.cfg.FEAT_SPMU2 = true))
      then some 0x18 else none) ∧
    (w.value .TPM ≠ some 1 ∨ a.el = .EL3 → trapTPM w a = none) ∧
    (w.value .TPM = some 1 → a.el ≠ .EL3 →
      (a.state = .AArch64 → trapTPM w a =
        if ((a.instr = .MRS ∨ a.instr = .MSR) ∧
            (a.reg.name ∈ [RegName.PMCCFILTR_EL0, .PMCCNTR_EL0, .PMCNTENCLR_EL0, .PMCNTENSET_EL0, .PMCR_EL0,
              .PMEVCNTRn_EL0, .PMEVTYPERn_EL0, .PMINTENCLR_EL1, .PMINTENSET_EL1, .PMOVSCLR_EL0, .PMOVSSET_EL0,
              .PMSELR_EL0, .PMSWINC_EL0, .PMUSERENR_EL0, .PMXEVCNTR_EL0, .PMXEVTYPER_EL0] ∨
            (a.reg.name ∈ [RegName.PMICFILTR_EL0, .PMICNTR_EL0] ∧ w.cfg.FEAT_PMUv3_ICNTR = true) ∨
            (a.reg.name = .PMECR_EL1 ∧ (w.cfg.FEAT_EBEP = true ∨ w.cfg.FEAT_PMUv3_SS = true)))) ∨
          (a.instr = .MRS ∧ (a.reg.name ∈ [RegName.PMCEID0_EL0, .PMCEID1_EL0] ∨
            (a.reg.name = .PMMIR_EL1 ∧ w.cfg.FEAT_PMUv3p4 = true))) ∨
          (a.instr = .MSR ∧ a.reg.name = .PMZR_EL0 ∧ w.cfg.FEAT_PMUv3p9 = true)
        then some 0x18 else none) ∧
      (a.state = .AArch32 → trapTPM w a =
        if ((a.instr = .MRC ∨ a.instr = .MCR) ∧
            a.reg.name ∈ [RegName.PMCCFILTR, .PMCCNTR, .PMCEID0, .PMCEID1, .PMCNTENCLR, .PMCNTENSET, .PMCR,
              .PMEVCNTRn, .PMEVTYPERn, .PMINTENCLR, .PMINTENSET, .PMOVSR, .PMOVSSET, .PMSELR, .PMSWINC, .PMUSERENR,
              .PMXEVCNTR, .PMXEVTYPER]) ∨
          (a.instr = .MRC ∧ ((a.reg.name ∈ [RegName.PMCEID2, .PMCEID3] ∧ w.cfg.FEAT_PMUv3p1 = true) ∨
            (a.reg.name = .PMMIR ∧ w.cfg.FEAT_PMUv3p4 = true)))
        then some 0x03
        else if (a.instr = .MRRC ∨ a.instr = .MCRR) ∧ a.reg.name = .PMCCNTR then some 0x04
        else none))

/-- NSTBE and NSTB, both variants (R203 to R206): which pairs are reserved, none in variant 2, where NSTBE reads as
0; for the others the owning Security state, the trapped accesses register by register with EC 0x18, and the states
in which an enabled trace buffer prohibits tracing, a disabled one none; both fields reset to UNKNOWN; NSTB's
Effective value without EL3. The model's reading of a PE without EL3 (log entry 28): nothing is trapped there, and
NSTBE, for which the source gives no Effective value (N14), is free if it is implemented. -/
def Obligations.TraceBufferOwnerTable : Prop :=
  resetClass .NSTB = .warmUnknown ∧ resetClass .NSTBE = .warmUnknown ∧
  (∀ (c : Config) (ns : Bool), impl c .NSTB = true → effectiveNoEL3 c ns .NSTB = some (if ns then 3 else 1)) ∧
  ∀ (w : View) (N : Word), w.value .NSTB = some N → ∃ E : Word,
    (w.value .NSTBE = some E ∨
      (w.value .NSTBE = none ∧ (E = 0 ∨ (E = 1 ∧ impl w.cfg .NSTBE = true ∧ w.cfg.haveEL3 = false)))) ∧
    (w.tbReserved = true ↔
      w.cfg.FEAT_RME = true ∧ (N = 0 ∨ N = 1) ∧ (E = 1 ∨ w.cfg.haveSecureState = false)) ∧
    (w.tbReserved = false → ∀ o : SecState,
      o = (if E = 1 then .Realm else if N = 0 ∨ N = 1 then .Secure else .NonSecure) →
      traceBufferUse w = some (.owner o) ∧
      (∀ ss, ss ≠ .Root → w.env.traceBufferEnabled = true → tbTraceProhibited w ss = some (decide (ss ≠ o))) ∧
      ∀ a : Access, trapNSTB w a = if registerExists w.cfg = true ∧ a.state = .AArch64 ∧
        (a.instr = .MRS ∨ a.instr = .MSR) ∧
        (a.reg.name ∈ [RegName.TRBBASER_EL1, .TRBLIMITR_EL1, .TRBMAR_EL1, .TRBPTR_EL1, .TRBSR_EL1, .TRBTRG_EL1] ∨
          (a.reg.name = .TRBMPAM_EL1 ∧ w.cfg.FEAT_TRBE_MPAM = true) ∨
          (a.reg.name ∈ [RegName.TRBSR_EL2, .TRBSR_EL12] ∧ w.cfg.FEAT_TRBE_EXC = true)) ∧
        (a.el = .EL1 ∨ a.el = .EL2) ∧ (N = 0 ∨ N = 2 ∨ a.ss ≠ o) then some 0x18 else none) ∧
    (∀ ss, w.env.traceBufferEnabled = false → tbTraceProhibited w ss = some false)

/-- NSPBE and NSPB, both variants (R243 to R245): which pairs are reserved, none in variant 2, where NSPBE reads as
0; for the others the owning Security state, the trapped accesses register by register with EC 0x18, PMSIDR_EL1 for
MRS only, and the states in which profiling is disabled; both fields reset to UNKNOWN; NSPB's Effective value without
EL3. The model's reading of a PE without EL3 (log entry 28): nothing is trapped there, and NSPBE, for which the source
gives no Effective value (N14), is free if it is implemented. -/
def Obligations.ProfilingBufferOwnerTable : Prop :=
  resetClass .NSPB = .warmUnknown ∧ resetClass .NSPBE = .warmUnknown ∧
  (∀ (c : Config) (ns : Bool), impl c .NSPB = true → effectiveNoEL3 c ns .NSPB = some (if ns then 3 else 1)) ∧
  ∀ (w : View) (N : Word), w.value .NSPB = some N → ∃ E : Word,
    (w.value .NSPBE = some E ∨
      (w.value .NSPBE = none ∧ (E = 0 ∨ (E = 1 ∧ impl w.cfg .NSPBE = true ∧ w.cfg.haveEL3 = false)))) ∧
    (w.pbReserved = true ↔
      w.cfg.FEAT_RME = true ∧ (N = 0 ∨ N = 1) ∧ (E = 1 ∨ w.cfg.haveSecureState = false)) ∧
    (w.pbReserved = false → ∀ o : SecState,
      o = (if E = 1 then .Realm else if N = 0 ∨ N = 1 then .Secure else .NonSecure) →
      profilingBufferUse w = some (.owner o) ∧
      (∀ ss, ss ≠ .Root → profilingDisabled w ss = some (decide (ss ≠ o))) ∧
      ∀ a : Access, trapNSPB w a = if registerExists w.cfg = true ∧ a.state = .AArch64 ∧
        (((a.instr = .MRS ∨ a.instr = .MSR) ∧
          (a.reg.name ∈ [RegName.PMBLIMITR_EL1, .PMBPTR_EL1, .PMBSR_EL1, .PMSCR_EL1, .PMSCR_EL2, .PMSCR_EL12,
              .PMSEVFR_EL1, .PMSFCR_EL1, .PMSICR_EL1, .PMSIRR_EL1, .PMSLATFR_EL1] ∨
            (a.reg.name = .PMSNEVFR_EL1 ∧ w.cfg.FEAT_SPE_FnE = true) ∨
            (a.reg.name = .PMSDSFR_EL1 ∧ w.cfg.FEAT_SPE_FDS = true) ∨
            (a.reg.name ∈ [RegName.PMBSR_EL2, .PMBSR_EL12] ∧ w.cfg.FEAT_SPE_EXC = true) ∨
            (a.reg.name = .PMBMAR_EL1 ∧ w.cfg.FEAT_SPE_nVM = true))) ∨
          (a.instr = .MRS ∧ a.reg.name = .PMSIDR_EL1)) ∧
        (a.el = .EL1 ∨ a.el = .EL2) ∧ (N = 0 ∨ N = 2 ∨ a.ss ≠ o) then some 0x18 else none)

/-- A reserved owner pair (R207, R208, R246, R247): the accesses of the unit's registers at EL2 and EL1 trap exactly
as the parameter says, in use or not (D4), and none without EL3 (log entry 28); while the unit is in use it acts as
the other parameter picks, else no effect is stated. So for the states in which tracing is prohibited or profiling
disabled: as if disabled none or all, a picked owner every other, and where data are dropped, where the unit is not in
use, or of Root state under a picked owner nothing is stated (log entry 22). Data at a unit that drops it:
TRBSR_ELx.IRQ is set always, S, EC and BSC only when S was 0; PMBSR_ELx.S, DL, EC and BSC only when S was 0; the other
fields, the other status registers and inputs never, nothing if the host names no register (x = EL0); at any other
unit nothing. Which x it is, is the host's (log entry 22); that such an event leaves MDCR, x and pc alone is the model's
choice (log entry 19). -/
def Obligations.ReservedOwnerPairsActAsChosen : Prop :=
  (∀ w : View, w.tbReserved = true →
    (∀ a : Access, trapNSTB w a = (if registerExists w.cfg = true ∧ w.cfg.CU_NSTB_RESERVED_TRAP = true ∧
      a.state = .AArch64 ∧ (a.instr = .MRS ∨ a.instr = .MSR) ∧ a.reg.name ∈ tbRegs w.cfg ∧
      (a.el = .EL1 ∨ a.el = .EL2) then some 0x18 else none)) ∧
    traceBufferUse w = some (if w.env.tbuSelfHosted = true then
      match w.cfg.CU_NSTB_RESERVED with
      | .AsDisabled => .asDisabled
      | .PickOwner o => .owner o
      | .DropAndEvent => .dropAndEvent
      else .noStatedEffect) ∧
    ∀ ss : SecState, tbTraceProhibited w ss =
      if w.env.traceBufferEnabled = false then some false
      else if w.env.tbuSelfHosted = false then none
      else match w.cfg.CU_NSTB_RESERVED with
        | .AsDisabled => some false
        | .PickOwner o => if ss = .Root then none else some (decide (ss ≠ o))
        | .DropAndEvent => none) ∧
  (∀ w : View, w.pbReserved = true →
    (∀ a : Access, trapNSPB w a = (if registerExists w.cfg = true ∧ w.cfg.CU_NSPB_RESERVED_TRAP = true ∧
      a.state = .AArch64 ∧ pbAccess w.cfg a = true ∧ (a.el = .EL1 ∨ a.el = .EL2) then some 0x18 else none)) ∧
    profilingBufferUse w = some (if w.env.profilingEnabled = true then
      match w.cfg.CU_NSPB_RESERVED with
      | .AsDisabled => .asDisabled
      | .PickOwner o => .owner o
      | .DropAndEvent => .dropAndEvent
      else .noStatedEffect) ∧
    ∀ ss : SecState, profilingDisabled w ss =
      if w.env.profilingEnabled = false then none
      else match w.cfg.CU_NSPB_RESERVED with
        | .AsDisabled => some true
        | .PickOwner o => if ss = .Root then none else some (decide (ss ≠ o))
        | .DropAndEvent => none) ∧
  ∀ (s t u : State) (x : EL),
    hostEvent (.traceData x) s = .next t → hostEvent (.profilingData x) s = .next u →
    let tr (e : Env) : TrbStatus := if x = .EL1 then e.trbsr1 else if x = .EL2 then e.trbsr2 else e.trbsr3
    let pr (e : Env) : PmbStatus := if x = .EL1 then e.pmbsr1 else if x = .EL2 then e.pmbsr2 else e.pmbsr3
    let drops : Prop :=
      s.view.tbReserved = true ∧ s.env.tbuSelfHosted = true ∧ s.cfg.CU_NSTB_RESERVED = .DropAndEvent
    let pdrops : Prop :=
      s.view.pbReserved = true ∧ s.env.profilingEnabled = true ∧ s.cfg.CU_NSPB_RESERVED = .DropAndEvent
    (drops → x ≠ .EL0 →
      (tr t.env).IRQ = true ∧ (tr t.env).S = true ∧ (tr t.env).rest = (tr s.env).rest ∧
      ((tr s.env).S = false → (tr t.env).EC = 0 ∧ (tr t.env).BSC = 0) ∧
      ((tr s.env).S = true → (tr t.env).EC = (tr s.env).EC ∧ (tr t.env).BSC = (tr s.env).BSC)) ∧
    (¬drops ∨ x = .EL0 → t.env = s.env) ∧
    t.env = { s.env with
      trbsr1 := if x = .EL1 then t.env.trbsr1 else s.env.trbsr1
      trbsr2 := if x = .EL2 then t.env.trbsr2 else s.env.trbsr2
      trbsr3 := if x = .EL3 then t.env.trbsr3 else s.env.trbsr3 } ∧
    (pdrops → x ≠ .EL0 →
      (pr u.env).S = true ∧ (pr u.env).rest = (pr s.env).rest ∧
      ((pr s.env).S = false → (pr u.env).DL = true ∧ (pr u.env).EC = 0 ∧ (pr u.env).BSC = 0) ∧
      ((pr s.env).S = true → u.env = s.env)) ∧
    (¬pdrops ∨ x = .EL0 → u.env = s.env) ∧
    u.env = { s.env with
      pmbsr1 := if x = .EL1 then u.env.pmbsr1 else s.env.pmbsr1
      pmbsr2 := if x = .EL2 then u.env.pmbsr2 else s.env.pmbsr2
      pmbsr3 := if x = .EL3 then u.env.pmbsr3 else s.env.pmbsr3 } ∧
    t.mdcr = s.mdcr ∧ u.mdcr = s.mdcr ∧ t.x = s.x ∧ u.x = s.x ∧ t.pc = s.pc ∧ u.pc = s.pc

/-! ## External debugger -/

/-- ETAD, EPMAD and EDAD (R210 to R220): with FEAT_RME each is a pair whose E bit stops Secure and whose D bit stops
Realm accesses, either of them Non-secure ones, and Root never is; without FEAT_RME the one bit stops Non-secure
accesses, or, for EPMAD and EDAD before FEAT_Debugv8p4, every access unless external Secure invasive debug is
enabled. The registers of EPMAD and EDAD are listed by variant; those of ETAD are inputs (N19). -/
def Obligations.ExternalAccessDisablesByVariant : Prop :=
  (∀ (E D : Bool),
    xadProhibits E D .NonSecure = (E || D) ∧ xadProhibits E D .Realm = D ∧
    xadProhibits E D .Secure = E ∧ xadProhibits E D .Root = false) ∧
  ∀ (w : View) (e : ExtAccess),
    let stops (E D : Field) : Prop :=
      (e.attr = .NonSecure ∧ (w.value E = some 1 ∨ w.value D = some 1)) ∨ (e.attr = .Realm ∧ w.value D = some 1) ∨
        (e.attr = .Secure ∧ w.value E = some 1)
    let pmuBase : Prop :=
      e.reg.name ∈ [RegName.PMCCFILTR_EL0, .PMCCNTR_EL0, .PMCFGR, .PMCNTENCLR_EL0, .PMCNTENSET_EL0, .PMCR_EL0,
        .PMEVCNTRn_EL0, .PMEVTYPERn_EL0, .PMINTENCLR_EL1, .PMINTENSET_EL1, .PMOVSCLR_EL0, .PMOVSSET_EL0] ∨
      (e.reg.name = .PMEVFILT2Rn ∧ w.cfg.PMEVFILT2R_IMPLEMENTED = true) ∨
      (e.reg.name = .PMIIDR ∧ w.cfg.PMIIDR_IMPLEMENTED = true) ∨
      (e.reg.name = .PMSWINC_EL0 ∧ w.cfg.PMSWINC_IN_EXTERNAL_VIEW = true) ∨
      (e.reg.name = .PMMIR ∧ w.cfg.FEAT_PMUv3p4 = true)
    let pmuExt : Prop :=
      (e.reg.name ∈ [RegName.PMCNTEN, .PMINTEN, .PMOVS] ∧ w.cfg.FEAT_PMUv3_EXT64 = true) ∨
      (e.reg.name = .PMZR_EL0 ∧ w.cfg.FEAT_PMUv3p9 = true) ∨
      (e.reg.name ∈ [RegName.PMCGCR0, .PMICFILTR_EL0, .PMICNTR_EL0] ∧ w.cfg.FEAT_PMUv3_ICNTR = true) ∨
      (e.reg.name = .PMPCSCTL ∧ w.cfg.FEAT_PCSRv8p9 = true)
    let debug : Prop := e.reg.name ∈ [RegName.DBGBCRn_EL1, .DBGBVRn_EL1, .DBGWCRn_EL1, .DBGWVRn_EL1]
    (w.cfg.FEAT_RME = true →
      (etadProhibits w e = true ↔ e.reg ∈ w.cfg.traceUnitRegs ∧ stops .ETADE .ETAD) ∧
      (epmadProhibits w e = true ↔ (pmuBase ∨ pmuExt) ∧ stops .EPMADE .EPMAD) ∧
      (edadProhibits w e = true ↔ (debug ∨ e.reg.name = .OSLAR_EL1) ∧ stops .EDADE .EDAD)) ∧
    (w.cfg.FEAT_RME = false →
      (etadProhibits w e = true ↔ w.value .ETAD = some 1 ∧ e.attr = .NonSecure ∧ e.reg ∈ w.cfg.etadAffects) ∧
      (w.cfg.FEAT_Debugv8p4 = true →
        (epmadProhibits w e = true ↔ w.value .EPMAD = some 1 ∧ (pmuBase ∨ pmuExt) ∧ e.attr = .NonSecure) ∧
        (edadProhibits w e = true ↔
          w.value .EDAD = some 1 ∧ (debug ∨ e.reg.name = .OSLAR_EL1) ∧ e.attr = .NonSecure)) ∧
      (w.cfg.FEAT_Debugv8p4 = false →
        (epmadProhibits w e = true ↔ w.value .EPMAD = some 1 ∧ pmuBase ∧ w.env.extSecureInvasive = false) ∧
        (edadProhibits w e = true ↔ w.value .EDAD = some 1 ∧
          (debug ∨ (e.reg.name = .OSLAR_EL1 ∧
            (w.cfg.FEAT_Debugv8p2 = true ∨ w.cfg.IMPDEF_EDAD_AFFECTS_OSLAR = true))) ∧
          w.env.extSecureInvasive = false)))

/-- ETBAD and EPMSSAD (R166, R168): their four values with FEAT_RME, two without, over the Trace Buffer registers,
an input (N19), and the PMU Snapshot registers. Without FEAT_RME the reserved values act as 0b00 or as 0b11 (D23, log
entry 21). An external access is prohibited when one of the five controls prohibits it (R322). -/
def Obligations.ExternalBufferDisablesByValue : Prop :=
  ∀ (w : View) (e : ExtAccess),
    let prohibits (f : Field) : Prop :=
      (w.value f = some 0 ∧
        (e.attr = .NonSecure ∨ (w.cfg.FEAT_RME = true ∧ (e.attr = .Secure ∨ e.attr = .Realm)))) ∨
      (w.value f = some 1 ∧ (e.attr = .Secure ∨ e.attr = .NonSecure)) ∨
      (w.value f = some 2 ∧ (e.attr = .Realm ∨ e.attr = .NonSecure))
    let snapshot (d : ExtAccess) : Prop := d.reg.name ∈ [RegName.PMCCNTSVR_EL1, .PMEVCNTSVRn_EL1, .PMSSCR_EL1] ∨
      (d.reg.name = .PMICNTSVR_EL1 ∧ w.cfg.FEAT_PMUv3_ICNTR = true)
    (w.cfg.FEAT_RME = true ∨ (w.value .ETBAD ≠ some 1 ∧ w.value .ETBAD ≠ some 2) →
      (etbadProhibits w e = true ↔ e.reg ∈ w.cfg.traceBufferRegs ∧ prohibits .ETBAD)) ∧
    (w.cfg.FEAT_RME = false → w.value .ETBAD = some 1 ∨ w.value .ETBAD = some 2 →
      (∀ d, etbadProhibits w d = true ↔ d.reg ∈ w.cfg.traceBufferRegs ∧ d.attr = .NonSecure) ∨
        (∀ d, etbadProhibits w d = false)) ∧
    (w.cfg.FEAT_RME = true ∨ (w.value .EPMSSAD ≠ some 1 ∧ w.value .EPMSSAD ≠ some 2) →
      (epmssadProhibits w e = true ↔ snapshot e ∧ prohibits .EPMSSAD)) ∧
    (w.cfg.FEAT_RME = false → w.value .EPMSSAD = some 1 ∨ w.value .EPMSSAD = some 2 →
      (∀ d, epmssadProhibits w d = true ↔ snapshot d ∧ d.attr = .NonSecure) ∨ (∀ d, epmssadProhibits w d = false)) ∧
    (externalProhibited w e = true ↔ etbadProhibits w e = true ∨ epmssadProhibits w e = true ∨
      etadProhibits w e = true ∨ epmadProhibits w e = true ∨ edadProhibits w e = true)

/-- With FEAT_RME no field of MDCR_EL3 prohibits a Root access (R166, R168, R210, R213, R217). -/
def Obligations.RootAccessesAreNeverProhibited : Prop :=
  ∀ (w : View) (e : ExtAccess), w.cfg.FEAT_RME = true → e.attr = .Root → externalProhibited w e = false

/-- After a reset ETBAD and EPMSSAD are restrictive and ETAD, EPMAD, EDAD permissive (R322): of the accesses to the
Trace Buffer and the PMU Snapshot registers exactly the Non-secure ones are prohibited, and with FEAT_RME the Secure
and Realm ones too (R166, R168). -/
def Obligations.ResetLeavesDebuggerAccessAsStated : Prop :=
  ∀ (w : View) (e : ExtAccess) (u r old : Word), registerExists w.cfg = true →
    w.bits = warmResetBits w.cfg u r old ∨ w.bits = coldResetBits w.cfg u r old →
    etadProhibits w e = false ∧ epmadProhibits w e = false ∧ edadProhibits w e = false ∧
    (let restricted : Bool :=
      e.attr == .NonSecure || (w.cfg.FEAT_RME && (e.attr == .Secure || e.attr == .Realm))
     (w.has .ETBAD = true → e.reg ∈ w.cfg.traceBufferRegs → etbadProhibits w e = restricted) ∧
     (w.has .EPMSSAD = true → (e.reg.name ∈ [RegName.PMCCNTSVR_EL1, .PMEVCNTSVRn_EL1, .PMSSCR_EL1] ∨
        (e.reg.name = .PMICNTSVR_EL1 ∧ w.cfg.FEAT_PMUv3_ICNTR = true)) → epmssadProhibits w e = restricted))

/-! ## Performance monitors -/

/-- Event counters, whatever the SPME variant. Variant 1 with MPMX (R178, R223): the joint table by their two values,
by the counter's range and by whether EL2 is implemented; with MPMX = 1 SPME prohibits nothing by itself (D12).
Variants 2 and 3 (R224, R225): SPME = 0 stops every event counter in Secure state, in variant 3 unless external
Secure non-invasive debug is enabled. Without SPME, MPMX acts as with SPME = 0 (R178). -/
def Obligations.EventCounterJointTable : Prop :=
  ∀ (w : View) (n : Nat),
    let inRange : Bool := w.rangeOf n == .first || w.rangeOf n == .second
    (w.cfg.FEAT_PMUv3p7 = true →
      (w.value .MPMX = some 0 → w.value .SPME = some 0 →
        countingProhibited w (.PMEVCNTR n) = (inRange && (w.el == .EL3 || w.env.ss == .Secure))) ∧
      (w.value .MPMX = some 0 → w.value .SPME = some 1 → countingProhibited w (.PMEVCNTR n) = false) ∧
      (w.value .MPMX = some 1 → w.value .SPME = some 0 ∨ w.value .SPME = none →
        countingProhibited w (.PMEVCNTR n) = (inRange && w.el == .EL3)) ∧
      (w.value .MPMX = some 1 → w.value .SPME = some 1 →
        countingProhibited w (.PMEVCNTR n) =
          (w.el == .EL3 && (w.rangeOf n == .first || (w.rangeOf n == .second && !w.cfg.haveEL2))))) ∧
    (w.cfg.FEAT_PMUv3p7 = false → w.cfg.FEAT_Debugv8p2 = true →
      (countingProhibited w (.PMEVCNTR n) = true ↔ w.value .SPME = some 0 ∧ w.env.ss = .Secure)) ∧
    (w.cfg.FEAT_PMUv3p7 = false → w.cfg.FEAT_Debugv8p2 = false →
      (countingProhibited w (.PMEVCNTR n) = true ↔
        w.value .SPME = some 0 ∧ w.env.ss = .Secure ∧ w.env.extSecureNoninvasive = false))

/-- The cycle counter and the instruction counter (R178, R179, R209, R223 to R225, R319): MCCD stops PMCCNTR_EL0 at
EL3 only, whatever PMCR_EL0.DP is, SCCD in Secure state and at EL3, MPMX and SPME only with DP = 1, SPME by variant;
MPMX and SPME variant 1 stop PMICNTR_EL0 where FEAT_PMUv3_ICNTR is implemented; nothing else stops either. -/
def Obligations.CycleCounterProhibitions : Prop :=
  ∀ w : View,
    let mpmx : Prop := w.value .MPMX = some 1 ∧ w.el = .EL3
    let spme1 : Prop := w.cfg.FEAT_PMUv3p7 = true ∧ w.value .MPMX = some 0 ∧ w.value .SPME = some 0 ∧
      (w.env.ss = .Secure ∨ w.el = .EL3)
    let spme2 : Prop := w.cfg.FEAT_PMUv3p7 = false ∧ w.value .SPME = some 0 ∧ w.env.ss = .Secure ∧
      (w.cfg.FEAT_Debugv8p2 = true ∨ w.env.extSecureNoninvasive = false)
    (countingProhibited w .PMCCNTR = true ↔
      (w.value .MCCD = some 1 ∧ w.el = .EL3) ∨
      (w.value .SCCD = some 1 ∧ (w.env.ss = .Secure ∨ w.el = .EL3)) ∨
      (w.env.pmcrDP = true ∧ (mpmx ∨ spme1 ∨ spme2))) ∧
    (countingProhibited w .PMICNTR = true ↔ w.cfg.FEAT_PMUv3_ICNTR = true ∧ (mpmx ∨ spme1))

/-- MTPME (R201): 0 makes every MT bit act as 0; 1 leaves it alone unless the implementation heeds a sibling PE
whose MTPME is 0; a Cold reset, and only that, sets it, and no other field resets to 1. -/
def Obligations.MtBitsFollowMTPME : Prop :=
  (∀ (w : View) (b : Bool),
    (w.value .MTPME = none → mtEffective w b = b) ∧
    (w.value .MTPME = some 0 → mtEffective w b = false) ∧
    (w.value .MTPME = some 1 →
      mtEffective w b = (b && !(w.cfg.IMPDEF_MTPME_SIBLING_DISABLE &&
        decide (∃ q ∈ w.env.siblings, q.sameLevel1Affinity = true ∧ q.MTPME = false))))) ∧
  (∀ (c : Config) (u r old : Word), impl c .MTPME = true → fieldOf .MTPME (coldResetBits c u r old) = 1 ∧
    fieldOf .MTPME (warmResetBits c u r old) = fieldOf .MTPME old) ∧
  (∀ f : Field, resetClass f = .cold 1 ↔ f = .MTPME)

/-- PMSSE (R200): the four values; it resets by a Cold reset only, to 0b00; 0b01 without EL3. -/
def Obligations.CaptureEventsFollowPMSSE : Prop :=
  (∀ w : View,
    (w.value .PMSSE = none → captureEvents w = none) ∧
    (w.value .PMSSE = some 0 → captureEvents w = some .Disabled) ∧
    (w.value .PMSSE = some 1 → captureEvents w = some (.ByMDCR_EL2_PMSSE w.env.mdcrEL2Pmsse)) ∧
    (w.value .PMSSE = some 2 → captureEvents w = some .EnabledProhibited) ∧
    (w.value .PMSSE = some 3 → captureEvents w = some .EnabledAllowed)) ∧
  (∀ (c : Config) (u r old : Word) (ns : Bool), impl c .PMSSE = true →
    fieldOf .PMSSE (coldResetBits c u r old) = 0 ∧
    fieldOf .PMSSE (warmResetBits c u r old) = fieldOf .PMSSE old ∧
    effectiveNoEL3 c ns .PMSSE = some 1)

/-- PMEE (R174): its three defined values, and the reserved one behaves as one of them, fixed while it is held (D24,
log entry 20): the behaviour depends on the number kept beside the register alone, and an `MSR` that finds 0b10 and
stores 0b10 keeps that number. -/
def Obligations.PmuInterruptFollowsPMEE : Prop :=
  (∀ w : View,
    (w.value .PMEE = none → pmuIrq w = none ∧ pmuException w = none) ∧
    (w.value .PMEE = some 0 → pmuIrq w = some w.env.pmuOverflow ∧ pmuException w = some false) ∧
    (w.value .PMEE = some 1 → pmuIrq w = some w.env.el2PmuIrq ∧ pmuException w = some w.env.el2PmuException) ∧
    (w.value .PMEE = some 3 → pmuIrq w = some false ∧ pmuException w = some true)) ∧
  (∀ k : Nat,
    (∀ w : View, w.value .PMEE = some 2 → w.choice = k →
      (pmuIrq w, pmuException w) = (some w.env.pmuOverflow, some false)) ∨
    (∀ w : View, w.value .PMEE = some 2 → w.choice = k →
      (pmuIrq w, pmuException w) = (some w.env.el2PmuIrq, some w.env.el2PmuException)) ∨
    (∀ w : View, w.value .PMEE = some 2 → w.choice = k →
      (pmuIrq w, pmuException w) = (some false, some true))) ∧
  (∀ (n : BitVec 5) (s t : State), exec (.msr n) s = .next t → fieldOf .PMEE s.mdcr.bits = 2 →
    fieldOf .PMEE t.mdcr.bits = 2 → t.mdcr.choice = s.mdcr.choice)

/-- EnPM2 = 0 forces the F0 bits (R256): with FEAT_PMUv3_ICNTR, those of five registers at EL0, EL1 and EL2, those of
two more at EL1 and EL2; a forced bit reads as zero and its writes are ignored; no other register, level, value of
EnPM2 or configuration forces anything. -/
def Obligations.FZeroBitsAreForced : Prop :=
  ∀ (w : View) (r : RegName) (b : Bool),
    (f0Forced w r = true ↔ w.value .EnPM2 = some 0 ∧ w.cfg.FEAT_PMUv3_ICNTR = true ∧
      ((r ∈ [RegName.PMCNTENCLR_EL0, .PMCNTENSET_EL0, .PMOVSCLR_EL0, .PMOVSSET_EL0, .PMZR_EL0] ∧ w.el ≠ .EL3) ∨
        (r ∈ [RegName.PMINTENCLR_EL1, .PMINTENSET_EL1] ∧ (w.el = .EL1 ∨ w.el = .EL2)))) ∧
    f0Read w r b = (if f0Forced w r then false else b) ∧
    answerQuery w (.f0Read r b) = .bool (f0Read w r b) ∧ answerQuery w (.f0WriteIgnored r) = .bool (f0Forced w r)

/-! ## Trace, profiling, branch recording, debug -/

/-- STE and RLTE (R222, R261): the state each prohibits tracing in and the authentication override; either
prohibition settles the question; both fields are exposed to the external-trace authentication; their
reset values, and STE's Effective value without EL3. -/
def Obligations.TraceEnablesByState : Prop :=
  (∀ (w : View) (ss : SecState),
    (steProhibits w ss = true ↔ w.value .STE = some 0 ∧ ss = .Secure ∧ w.env.authOverrideSecureTrace = false) ∧
    (rlteProhibits w ss = true ↔ w.value .RLTE = some 0 ∧ ss = .Realm ∧ w.env.authOverrideRealmTrace = false) ∧
    (steProhibits w ss = true ∨ rlteProhibits w ss = true → tracingProhibited w ss = some true) ∧
    answerQuery w .traceAuthentication = .twoBools
      ((w.value .STE).map (fun v => decide (v = 1))) ((w.value .RLTE).map (fun v => decide (v = 1)))) ∧
  resetClass .STE = .warmZero ∧ resetClass .RLTE = .warmZero ∧
  (∀ c : Config, (impl c .STE = true → effectiveNoEL3 c false .STE = some 1) ∧ effectiveNoEL3 c true .STE = none)

/-- TRBEE and PMSEE, value by value (R161, R163, R310, R311): what is recorded in TRBSR_EL3 and PMBSR_EL3, when the
exception goes to EL3, to which fields 0b01 delegates it, and that 0b00, and only it, says what drives TRBIRQ and
PMBIRQ. -/
def Obligations.BufferEventsAtEL3 : Prop :=
  ∀ (w : View) (c : EventCause),
    let targetsEL3 : Prop := c = .gpcFaultOtherThanGPF ∨ (c = .GPF ∧ w.env.scrGPF = true) ∨
      (c = .externalAbort ∧ w.env.scrEA = true)
    (trbRecorded w c = true ↔ w.value .TRBEE = some 3 ∨ (w.value .TRBEE = some 2 ∧ targetsEL3)) ∧
    (trbeException w = true ↔ (w.value .TRBEE = some 2 ∨ w.value .TRBEE = some 3) ∧ w.env.trbeUnmasked = true ∧
      w.env.trbsr3.IRQ = true) ∧
    trbeDelegate w = (if w.value .TRBEE = some 1 then some (w.env.trfcrEL2EE, w.env.trfcrEL1EE) else none) ∧
    trbIrq w = (if w.value .TRBEE = some 0 then some w.env.trbsr1.IRQ else none) ∧
    (pmbRecorded w c = true ↔ w.value .PMSEE = some 3 ∨ (w.value .PMSEE = some 2 ∧ targetsEL3)) ∧
    (speException w = true ↔ (w.value .PMSEE = some 2 ∨ w.value .PMSEE = some 3) ∧ w.env.speUnmasked = true ∧
      w.env.pmbsr3.S = true) ∧
    speDelegate w = (if w.value .PMSEE = some 1 then some (w.env.pmscrEL2EE, w.env.pmscrEL1EE) else none) ∧
    pmbIrq w = (if w.value .PMSEE = some 0 then some w.env.pmbsr1.S else none)

/-- Branch recording at EL3 (R176, R181) through resets: the XOR of the two bits; disabled by a Cold reset;
(1,0) survives a Warm reset; (1,1) becomes enabled at a Warm reset; without FEAT_BRBEv1p1 EL3 is a
prohibited region. -/
def Obligations.BranchRecordingAcrossResets : Prop :=
  ∀ (w : View) (u r old : Word), registerExists w.cfg = true →
    (w.cfg.FEAT_BRBEv1p1 = true →
      branchRecordingAtEL3 w = decide (fieldOf .E3BREC w.bits ≠ fieldOf .E3BREW w.bits) ∧
      branchRecordingAtEL3 { w with bits := coldResetBits w.cfg u r old } = false ∧
      branchRecordingAtEL3 { w with bits := warmResetBits w.cfg u r old } =
        decide (fieldOf .E3BREC old = 1) ∧
      (∀ ss, branchProhibited w .EL3 ss = !branchRecordingAtEL3 w)) ∧
    (w.cfg.FEAT_BRBEv1p1 = false → branchRecordingAtEL3 w = false ∧
      (w.has .SBRBE = true → ∀ ss, branchProhibited w .EL3 ss = true))

/-- SBRBE below EL3 (R180, R181): which accesses of the Branch Record Buffer registers and instructions each value
traps, at EL0 too (conflict C3, log entry 26), with EC 0x18 (D16's choice, log entry 23), and which states it makes
prohibited regions; a field that does not act does neither, and nothing is trapped at EL3. -/
def Obligations.BranchRecordControlByValue : Prop :=
  ∀ (w : View) (a : Access),
    trapSBRBE w a = (if a.el ≠ .EL3 ∧
      (((a.instr = .MRS ∨ a.instr = .MSR) ∧ a.reg.name ∈ [RegName.BRBCR_EL1, .BRBCR_EL2, .BRBCR_EL12, .BRBFCR_EL1,
          .BRBIDR0_EL1, .BRBINFn_EL1, .BRBINFINJ_EL1, .BRBSRCn_EL1, .BRBSRCINJ_EL1, .BRBTGTn_EL1, .BRBTGTINJ_EL1,
          .BRBTS_EL1]) ∨
        (a.instr = .SYS ∧ a.reg.name ∈ [RegName.BRB_IALL, .BRB_INJ])) ∧
      (w.value .SBRBE = some 0 ∨ w.value .SBRBE = some 2 ∨ (w.value .SBRBE = some 1 ∧ a.ss = .Secure))
      then some 0x18 else none) ∧
    (∀ el ss, el ≠ .EL3 → (branchProhibited w el ss = true ↔
      w.value .SBRBE = some 0 ∨ (w.value .SBRBE = some 1 ∧ ss = .Secure)))

/-- SDD and SPD32 (R226, R240, R241), SDD for either value of SDD_RW_VALUE: outside Secure state or at the
other value of SCR_EL3.RW both are ignored; Breakpoint Instruction exceptions are never disabled. Secure EL0 under an
AArch32 Secure EL1: by SDD's paragraph, with Secure EL2 enabled, enabled when Secure EL1's are or SUIDEN is 1 (R227);
by SPD32's, while SPD32 is not ignored, when SPD32 enables Secure EL1's or SUIDEN is 1 (R242); else neither says
anything, and a field that is RES0 or has no Effective value says nothing (V10; log entry 28). -/
def Obligations.DebugExceptionControls : Prop :=
  ∀ (w : View) (x : DebugExc),
    (sddDisables w x = true ↔ w.value .SDD = some 1 ∧ w.env.ss = .Secure ∧
      w.env.scrRW = w.cfg.SDD_RW_VALUE ∧ x.isSoftware = true ∧ x.isBreakpointInstruction = false) ∧
    (x.isBreakpointInstruction = true → spd32Enables w x = some true) ∧
    (x.isBreakpointInstruction = false → (w.env.ss ≠ .Secure ∨ w.env.scrRW = true) → spd32Enables w x = none) ∧
    (x.isBreakpointInstruction = false → w.has .SPD32 = true → w.env.ss = .Secure → w.env.scrRW = false →
      (w.value .SPD32 = some 0 ∨ w.value .SPD32 = some 1 → spd32Enables w x = some w.env.authSecureEL1Debug) ∧
      (w.value .SPD32 = some 2 → spd32Enables w x = some false) ∧
      (w.value .SPD32 = some 3 → spd32Enables w x = some true)) ∧
    secureEL0BySDD w = (if w.value .SDD ≠ none ∧ w.env.secureEL2Enabled = true ∧ w.env.secureEL1AArch32 = true
      then some (w.env.debugExcSecureEL1 || w.env.suiden) else none) ∧
    (w.value .SPD32 = none ∨ w.env.ss ≠ .Secure ∨ w.env.scrRW = true ∨ w.env.secureEL1AArch32 = false →
      secureEL0BySPD32 w = none) ∧
    (w.env.ss = .Secure → w.env.scrRW = false → w.env.secureEL1AArch32 = true →
      (w.value .SPD32 = some 0 ∨ w.value .SPD32 = some 1 →
        secureEL0BySPD32 w = some (w.env.authSecureEL1Debug || w.env.suiden)) ∧
      (w.value .SPD32 = some 2 → secureEL0BySPD32 w = some w.env.suiden) ∧
      (w.value .SPD32 = some 3 → secureEL0BySPD32 w = some true))

/-- EBWE's Effective values (R170): when 0, when 1 or RES0; it resets to 0, and is 1 without EL3. -/
def Obligations.ExtendedBreakpointsOffWhenEBWEZero : Prop :=
  resetClass .EBWE = .warmZero ∧
  (∀ (c : Config) (ns : Bool), impl c .EBWE = true → effectiveNoEL3 c ns .EBWE = some 1) ∧
  ∀ w : View,
    (w.value .EBWE = some 0 →
      effectiveEMBWE w = false ∧ effectiveEL2EBWE w = false ∧
      effectiveBANK w = if w.el = .EL3 then 0 else w.env.mdselrBANK) ∧
    (w.value .EBWE = none ∨ w.value .EBWE = some 1 →
      effectiveEMBWE w = w.env.mdscrEMBWE ∧ effectiveEL2EBWE w = w.env.mdcrEL2EBWE ∧
      effectiveBANK w = w.env.mdselrBANK)

/-- What a field acts with (R29, R78): of a register that exists, its stored bits where the field is implemented; on
a PE without EL3 the value of R78's table, by SCR_EL3.NS, for an implemented field, and of no other; with EL3 but
without FEAT_AA64 nothing. What the `effective` query answers of a register that exists is this value, but nothing
while SDD or SPD32 is ignored, 0b00 for a reserved SPD32, and 0 for MTPME that a sibling disables (R201, R226, R240,
R241). That a field without a value in R78's table, or RES0, does not act on a PE without EL3, and that nothing acts
with EL3 but without FEAT_AA64, is the model's reading where the source is silent (N14, V10; log entry 28). -/
def Obligations.FieldsActWithTheEffectiveValue : Prop :=
  (∀ (w : View) (f : Field),
    (registerExists w.cfg = true → w.value f = if impl w.cfg f then some (fieldOf f w.bits) else none) ∧
    (w.cfg.haveEL3 = true → w.cfg.FEAT_AA64 = false → w.value f = none) ∧
    (w.cfg.haveEL3 = false → impl w.cfg f = false → w.value f = none) ∧
    (w.cfg.haveEL3 = false → impl w.cfg f = true → w.value f =
      (if f ∈ [Field.TRBEE, .PMSEE, .EBWE, .PMEE, .PMSSE] then some 1
       else if f ∈ [Field.ETBAD, .EPMSSAD, .SBRBE] then some 3
       else if f ∈ [Field.NSTB, .NSPB] then some (if w.env.scrNS then 3 else 1)
       else if w.env.scrNS = false ∧ f = .SPD32 then some 3
       else if w.env.scrNS = false ∧ (f ∈ [Field.STE, .SPME] ∨
           (w.cfg.FEAT_RME = false ∧ f ∈ [Field.ETAD, .EPMAD, .EDAD])) then some 1
       else none))) ∧
  ∀ (w : View) (f : Field),
    (registerExists w.cfg = false → effectiveValue w f = w.value f) ∧
    (registerExists w.cfg = true →
      (f ≠ .SDD → f ≠ .SPD32 → f ≠ .MTPME → effectiveValue w f = w.value f) ∧
      effectiveValue w .SDD =
        (if w.env.ss = .Secure ∧ w.env.scrRW = w.cfg.SDD_RW_VALUE then w.value .SDD else none) ∧
      effectiveValue w .SPD32 = (if w.env.ss = .Secure ∧ w.env.scrRW = false then
        (if w.value .SPD32 = some 1 then some 0 else w.value .SPD32) else none) ∧
      effectiveValue w .MTPME = (if w.value .MTPME = some 1 ∧ w.cfg.IMPDEF_MTPME_SIBLING_DISABLE = true ∧
        (∃ q ∈ w.env.siblings, q.sameLevel1Affinity = true ∧ q.MTPME = false) then some 0 else w.value .MTPME))

/-- Without EL3 or FEAT_AA64 the register does not exist (R3, R127): no unit's answer depends on what State holds for
it or its shadow, a reset leaves nothing in them, and the invariant says that nothing is there. The model's reading
(log entry 28): that its controls trap no access there, and that State has the two places at all. -/
def Obligations.AbsentRegisterHasNoState : Prop :=
  (∀ (w : View) (el2 : Bool) (a : Access), registerExists w.cfg = false → trapCandidates w el2 a = []) ∧
  (∀ (w : View) (b : Word) (k : Nat) (q : Query), registerExists w.cfg = false →
    answerQuery { w with bits := b, choice := k } q = answerQuery w q) ∧
  ∀ s : State, registerExists s.cfg = false →
    (s.Inv → s.mdcr = ⟨0, 0, 0⟩ ∧ s.mdcrEff = ⟨0, 0, 0⟩) ∧
    (∀ p t, hostEvent (.coldReset p) s = .next t ∨ hostEvent (.warmReset p) s = .next t →
      t.mdcr = ⟨0, 0, 0⟩ ∧ t.mdcrEff = ⟨0, 0, 0⟩) ∧
    (∀ (m e : Stored) (ev : HostEvent),
      mapNext State.blind (hostEvent ev { s with mdcr := m, mdcrEff := e }) = mapNext State.blind (hostEvent ev s))

/-! ## Reset and layout -/

/-- Reset field by field (R341, R342, R75): for every draw, a field that resets to zero is 0, an UNKNOWN field
is the draw's, a Cold-reset field keeps its value through a Warm reset and takes its Cold value in a Cold
one; RES0 bits are 0 unless RES0 storage; and the results R342 gives under CFG_ALL and CFG_MIN. -/
def Obligations.ResetSetsEachFieldByItsClass : Prop :=
  (∀ (c : Config) (u r old : Word) (f : Field), impl c f = true →
    (resetClass f = .warmZero →
      fieldOf f (warmResetBits c u r old) = 0 ∧ fieldOf f (coldResetBits c u r old) = 0) ∧
    (resetClass f = .warmUnknown → fieldOf f (warmResetBits c u r old) = fieldOf f u ∧
      fieldOf f (coldResetBits c u r old) = fieldOf f u) ∧
    (∀ v, resetClass f = .cold v → fieldOf f (warmResetBits c u r old) = fieldOf f old ∧
      fieldOf f (coldResetBits c u r old) = v)) ∧
  (∀ (c : Config) (u r old : Word),
    coldResetBits c u r old &&& res0Mask c &&& ~~~c.RES0_STORAGE_MASK = 0) ∧
  (∀ u r old : Word,
    coldResetBits cfgAll u r old &&& ~~~0x008494930F09FEC0 = 0x0000000010000000 ∧
    coldResetBits cfgMin u r old = u &&& 0x00010600)

/-- A reset in the machine (R342): MDCR_EL3 is a reset value for some draw, the shadow equals it, and a register that
does not exist stays without contents (R127). Registers, pc and level are what the host supplies (R346). The model's
choices: the flags and the Security state come with them (log entries 29, 32), the rest of the inputs, memory and the
parameters stay (log entry 32). -/
def Obligations.ResetEventLoadsTheShadow : Prop :=
  ∀ (s : State) (p : ResetSupply) (cold : Bool),
    ∃ t u r, hostEvent (if cold then .coldReset p else .warmReset p) s = .next t ∧
      (registerExists s.cfg = true →
        t.mdcr.bits = (if cold then coldResetBits s.cfg u r s.mdcr.bits else warmResetBits s.cfg u r s.mdcr.bits) ∧
        t.mdcr.unknown = 0x008494930F09FEC0 &&& implMask s.cfg) ∧
      (registerExists s.cfg = false → t.mdcr = ⟨0, 0, 0⟩) ∧
      t.mdcrEff = t.mdcr ∧ t.x = p.x ∧ t.pc = p.pc ∧ t.el = p.el ∧ t.nzcv = p.nzcv ∧
      t.env = { s.env with ss := p.ss } ∧ t.mem = s.mem ∧ t.cfg = s.cfg

/-- After a Warm reset (R344): TRBEE, PMSEE and PMEE are 0, so TRBE and SPE Profiling exceptions are off,
TRBSR_EL2 and PMBSR_EL2 accesses at EL2 are trapped, TRBIRQ follows TRBSR_EL1.IRQ, PMBIRQ follows PMBSR_EL1.S, PMUIRQ
is asserted on a PMU overflow and the PMU Profiling exception is disabled. The EC 0x18 of the two traps is R162's and
R164's by D16, not the source's (log entry 23). -/
def Obligations.ProfilingExceptionsOffAfterReset : Prop :=
  ∀ (w : View) (u r old : Word), registerExists w.cfg = true → w.bits = warmResetBits w.cfg u r old →
    (w.has .TRBEE = true → w.value .TRBEE = some 0 ∧ trbeMode w = some .Disabled ∧ trbeException w = false ∧
      trbIrq w = some w.env.trbsr1.IRQ ∧
      ∀ a : Access, a.reg.name = .TRBSR_EL2 → a.el = .EL2 → trapTRBEE w a = some 0x18) ∧
    (w.has .PMSEE = true → w.value .PMSEE = some 0 ∧ speMode w = some .Disabled ∧ speException w = false ∧
      pmbIrq w = some w.env.pmbsr1.S ∧
      ∀ a : Access, a.reg.name = .PMBSR_EL2 → a.el = .EL2 → trapPMSEE w a = some 0x18) ∧
    (w.has .PMEE = true → w.value .PMEE = some 0 ∧ pmuIrq w = some w.env.pmuOverflow ∧
      pmuException w = some false)

/-- The implemented bits as R74 writes them out, EBWE's as R40 does. -/
def Obligations.ImplMaskIsTheStatedFormula : Prop :=
  ∀ c : Config, implMask c =
    0x00100600#64
    ||| (if c.FEAT_SPE_nVM then 0x0080000000000000#64 else 0)
    ||| (if c.FEAT_TRBE_EXC then 0x0060000000000000#64 else 0)
    ||| (if c.FEAT_SPE_EXC then 0x0018000000000000#64 else 0)
    ||| (if c.FEAT_STEP2 then 0x0004000000000000#64 else 0)
    ||| (if c.FEAT_TRBE_EXT then 0x0003000000000000#64 else 0)
    ||| (if c.FEAT_ITE then 0x0000800000000000#64 else 0)
    ||| (if c.FEAT_PMUv3_SS then 0x00007000C0000000#64 else 0)
    ||| (if c.FEAT_Debugv8p9 && !(decide (c.NUM_BREAKPOINTS ≤ 16) && decide (c.NUM_WATCHPOINTS ≤ 16) &&
          c.MDSELR_RAZWI && c.IMPDEF_EBWE_IS_RES0) then 0x0000080000000000#64 else 0)
    ||| (if c.FEAT_SPE_FDS then 0x0000040000000000#64 else 0)
    ||| (if c.FEAT_EBEP then 0x0000030000000000#64 else 0)
    ||| (if c.FEAT_TRBE_MPAM then 0x0000008000000000#64 else 0)
    ||| (if c.FEAT_BRBEv1p1 then 0x0000006000000000#64 else 0)
    ||| (if c.FEAT_SPE_FnE then 0x0000001000000000#64 else 0)
    ||| (if c.FEAT_PMUv3p7 then 0x0000000C00000000#64 else 0)
    ||| (if c.FEAT_BRBE then 0x0000000300000000#64 else 0)
    ||| (if c.FEAT_MTPMU then 0x0000000010000000#64 else 0)
    ||| (if c.FEAT_FGT then 0x0000000008000000#64 else 0)
    ||| (if c.FEAT_TRBE && c.FEAT_RME then 0x0000000004000000#64 else 0)
    ||| (if c.FEAT_TRBE then 0x0000000003000000#64 else 0)
    ||| (if c.FEAT_PMUv3p5 then 0x0000000000800000#64 else 0)
    ||| (if c.FEAT_TRC_EXT && c.FEAT_TRBE then 0x0000000000400000#64 else 0)
    ||| (if c.FEAT_PMUv3_EXT then 0x0000000000200000#64 else 0)
    ||| (if c.FEAT_TRF then 0x0000000000080000#64 else 0)
    ||| (if c.FEAT_TRF && c.haveSecureState then 0x0000000000040000#64 else 0)
    ||| (if c.FEAT_PMUv3 then 0x0000000000020040#64 else 0)
    ||| (if c.haveSecureState then 0x0000000000010000#64 else 0)
    ||| (if c.FEAT_AA32EL1 then 0x000000000000C000#64 else 0)
    ||| (if c.FEAT_SPE then 0x0000000000003000#64 else 0)
    ||| (if c.FEAT_SPE && c.FEAT_RME then 0x0000000000000800#64 else 0)
    ||| (if c.FEAT_PMUv3p9 || c.FEAT_SPMU || c.FEAT_EBEP || c.FEAT_PMUv3_SS || c.FEAT_SPMU2 then 0x80#64 else 0)
    ||| (if c.FEAT_RME then 0x0000000000000010#64 else 0)
    ||| (if c.FEAT_RME && c.FEAT_TRC_EXT && c.FEAT_TRBE then 0x08#64 else 0)
    ||| (if c.FEAT_RME && c.FEAT_PMUv3_EXT then 0x04#64 else 0)
    ||| (if c.FEAT_RME && c.FEAT_TRF then 0x01#64 else 0)

/-- The layout (R28): msb, lsb and mask of each of the 42 fields. The masks (R27, R75): bits always implemented, bits
never implemented, the complement, the largest mask; each field's mask and extraction; the three reset masks and that
they divide the largest one. -/
def Obligations.MaskIdentities : Prop :=
  (allFields.map (fun f => (f, fieldMsb f, fieldLsb f, fieldMask f)) : List (Field × Nat × Nat × Word)) =
    [(.EnPMS4, 55, 55, 0x0080000000000000), (.TRBEE, 54, 53, 0x0060000000000000),
     (.PMSEE, 52, 51, 0x0018000000000000), (.EnSTEPOP, 50, 50, 0x0004000000000000),
     (.ETBAD, 49, 48, 0x0003000000000000), (.EnITE, 47, 47, 0x0000800000000000),
     (.EPMSSAD, 46, 45, 0x0000600000000000), (.EnPMSS, 44, 44, 0x0000100000000000),
     (.EBWE, 43, 43, 0x0000080000000000), (.EnPMS3, 42, 42, 0x0000040000000000),
     (.PMEE, 41, 40, 0x0000030000000000), (.EnTB2, 39, 39, 0x0000008000000000),
     (.E3BREC, 38, 38, 0x0000004000000000), (.E3BREW, 37, 37, 0x0000002000000000),
     (.EnPMSN, 36, 36, 0x0000001000000000), (.MPMX, 35, 35, 0x0000000800000000),
     (.MCCD, 34, 34, 0x0000000400000000), (.SBRBE, 33, 32, 0x0000000300000000),
     (.PMSSE, 31, 30, 0x00000000C0000000), (.MTPME, 28, 28, 0x0000000010000000),
     (.TDCC, 27, 27, 0x0000000008000000), (.NSTBE, 26, 26, 0x0000000004000000),
     (.NSTB, 25, 24, 0x0000000003000000), (.SCCD, 23, 23, 0x0000000000800000), (.ETAD, 22, 22, 0x0000000000400000),
     (.EPMAD, 21, 21, 0x0000000000200000), (.EDAD, 20, 20, 0x0000000000100000),
     (.TTRF, 19, 19, 0x0000000000080000), (.STE, 18, 18, 0x0000000000040000), (.SPME, 17, 17, 0x0000000000020000),
     (.SDD, 16, 16, 0x0000000000010000), (.SPD32, 15, 14, 0x000000000000C000), (.NSPB, 13, 12, 0x0000000000003000),
     (.NSPBE, 11, 11, 0x0000000000000800), (.TDOSA, 10, 10, 0x0000000000000400), (.TDA, 9, 9, 0x0000000000000200),
     (.EnPM2, 7, 7, 0x0000000000000080), (.TPM, 6, 6, 0x0000000000000040), (.EDADE, 4, 4, 0x0000000000000010),
     (.ETADE, 3, 3, 0x0000000000000008), (.EPMADE, 2, 2, 0x0000000000000004), (.RLTE, 0, 0, 0x0000000000000001)] ∧
  (∀ f : Field, f ∈ allFields ∧ fieldMsb f + 1 = fieldLsb f + fieldWidth f) ∧
  (∀ c : Config, implMask c &&& 0x00100600 = 0x00100600 ∧ implMask c &&& 0xFF00000020000122 = 0 ∧
    res0Mask c = ~~~implMask c ∧
    (∀ i < 64, (implMask c).getLsbD i = true ↔ ∃ f, impl c f = true ∧ fieldLsb f ≤ i ∧ i ≤ fieldMsb f)) ∧
  implMask cfgAll = 0x00FFFFFFDFFFFEDD ∧ ~~~(0x00FFFFFFDFFFFEDD : Word) = 0xFF00000020000122 ∧
  (∀ (f : Field) (v : Word), fieldOf f v = (v &&& fieldMask f) >>> fieldLsb f ∧
    fieldMask f = ((1#64 <<< (fieldMsb f - fieldLsb f + 1)) - 1#64) <<< fieldLsb f) ∧
  auMask = 0x008494930F09FEC0 ∧ coldMask = 0x00000040D0000000 ∧ coldValue = 0x0000000010000000 ∧
  warmZeroMask = 0x007B6B2C00F6001D ∧ auMask &&& coldMask = 0 ∧ auMask &&& warmZeroMask = 0 ∧
  coldMask &&& warmZeroMask = 0 ∧ auMask ||| coldMask ||| warmZeroMask = 0x00FFFFFFDFFFFEDD

/-- The machine right after reset: the fields with a stated reset value hold it (R342, R75), the shadow equals
the register. The model's choices: the configuration CFG_ALL (log entry 6), memory that lists nothing (log entry 7),
no pending host event (log entry 19: DESIGN CHOICE), EL3 (log entry 3: PRESUMED), and 0 in pc and in X0 to X30 (log
entry 2). -/
def Obligations.StateAfterReset : Prop :=
  State.reset.mdcr.bits &&& ~~~0x008494930F09FEC0 = 0x0000000010000000 ∧
  State.reset.mdcrEff = State.reset.mdcr ∧ State.reset.inbox = [] ∧ State.reset.mem = [] ∧
  State.reset.el = .EL3 ∧ State.reset.cfg = cfgAll ∧ State.reset.pc = 0 ∧
  State.reset.x = Vector.replicate 31 0
end

