-- ==== Sys2Proof/Laws/Fields.lean ====
section
/-! SUPPORT. The fields as masks: they do not overlap, a mask keeps exactly its fields, and a field of a
masked value is the field or 0. -/

namespace Sys2Proof.Machine

-- one proof at a time: proofs that wait for the kernel each hold a thread
set_option Elab.async false

/-- Masking distributes over OR. -/
theorem or_and_right (a b m : Word) : (a ||| b) &&& m = (a &&& m) ||| (b &&& m) := by
  ext i hi; simp [Bool.and_or_distrib_right]

/-- The list of fields is complete (R28). -/
theorem mem_allFields (f : Field) : f ∈ allFields := by cases f <;> decide

/-- A property of each listed field is a property of every field. -/
theorem forall_field {p : Field → Prop} (h : ∀ f ∈ allFields, p f) (f : Field) : p f := h f (mem_allFields f)

/-- No two fields share a bit (R28). -/
theorem fieldMask_disjoint {f g : Field} (h : f ≠ g) : fieldMask f &&& fieldMask g = 0 := by
  have : ∀ f ∈ allFields, ∀ g ∈ allFields, f ≠ g → fieldMask f &&& fieldMask g = 0 := by decide +kernel
  exact this f (mem_allFields f) g (mem_allFields g) h

/-- The bits of a field's mask are those from its lsb to its msb (R27). -/
theorem getLsbD_fieldMask (f : Field) (i : Nat) (hi : i < 64) :
    (fieldMask f).getLsbD i = decide (fieldLsb f ≤ i ∧ i ≤ fieldMsb f) := by
  have : ∀ f ∈ allFields, ∀ i < 64,
      (fieldMask f).getLsbD i = decide (fieldLsb f ≤ i ∧ i ≤ fieldMsb f) := by decide +kernel
  exact this f (mem_allFields f) i hi

@[simp] theorem maskOf_nil : maskOf [] = 0#64 := rfl
@[simp] theorem maskOf_cons (f : Field) (fs : List Field) : maskOf (f :: fs) = fieldMask f ||| maskOf fs := rfl

/-- A bit is in a mask when one of its fields has it. -/
theorem getLsbD_maskOf (fs : List Field) (i : Nat) :
    (maskOf fs).getLsbD i = fs.any fun f => (fieldMask f).getLsbD i := by
  induction fs with
  | nil => simp
  | cons f fs ih => simp [ih]

/-- A mask meets a field in all of it or none of it. -/
theorem maskOf_and_fieldMask (fs : List Field) (f : Field) :
    maskOf fs &&& fieldMask f = if f ∈ fs then fieldMask f else 0 := by
  induction fs with
  | nil => simp
  | cons g fs ih =>
    rw [maskOf_cons, or_and_right, ih]
    by_cases hg : g = f
    · subst hg; by_cases hm : g ∈ fs <;> simp [hm]
    · rw [fieldMask_disjoint hg]; simp [show f ≠ g from fun h => hg h.symm]

theorem maskOf_filter_and_fieldMask (p : Field → Bool) (f : Field) :
    maskOf (allFields.filter p) &&& fieldMask f = if p f then fieldMask f else 0 := by
  rw [maskOf_and_fieldMask]; simp [List.mem_filter, mem_allFields]

@[simp] theorem fieldOf_zero (f : Field) : fieldOf f 0 = 0 := by simp [fieldOf]

theorem fieldOf_or (f : Field) (v w : Word) : fieldOf f (v ||| w) = fieldOf f v ||| fieldOf f w := by
  simp [fieldOf, or_and_right, BitVec.ushiftRight_or_distrib]

/-- A field of a value under the mask of the fields that `p` picks. -/
theorem fieldOf_and_mask (p : Field → Bool) (f : Field) (v : Word) :
    fieldOf f (v &&& maskOf (allFields.filter p)) = if p f then fieldOf f v else 0 := by
  unfold fieldOf
  rw [BitVec.and_assoc, maskOf_filter_and_fieldMask]
  split <;> simp

/-- A field of a value under the complement of such a mask. -/
theorem fieldOf_and_not_mask (p : Field → Bool) (f : Field) (v : Word) :
    fieldOf f (v &&& ~~~maskOf (allFields.filter p)) = if p f then 0 else fieldOf f v := by
  have h := maskOf_filter_and_fieldMask p f
  unfold fieldOf
  split <;> rename_i hp <;> simp only [hp, if_true, if_false, Bool.false_eq_true] at h
  · have : v &&& ~~~maskOf (allFields.filter p) &&& fieldMask f = 0 := by
      rw [← h]; ext i hi; simp; grind
    rw [this]; simp
  · have : v &&& ~~~maskOf (allFields.filter p) &&& fieldMask f = v &&& fieldMask f := by
      ext i hi
      have := congrArg (fun w : Word => w[i]) h
      simp at this ⊢
      grind
    rw [this]

/-- A field depends only on its own bits. -/
theorem fieldOf_and_fieldMask (f : Field) (v : Word) : fieldOf f (v &&& fieldMask f) = fieldOf f v := by
  simp [fieldOf, BitVec.and_assoc]

/-- A mask that covers a field leaves it. -/
theorem fieldOf_and_of_covers (f : Field) (v m : Word) (h : m &&& fieldMask f = fieldMask f) :
    fieldOf f (v &&& m) = fieldOf f v := by
  rw [← fieldOf_and_fieldMask, BitVec.and_assoc, h, fieldOf_and_fieldMask]

/-- A mask that misses a field clears it. -/
theorem fieldOf_and_of_misses (f : Field) (v m : Word) (h : m &&& fieldMask f = 0) :
    fieldOf f (v &&& m) = 0 := by
  rw [← fieldOf_and_fieldMask, BitVec.and_assoc, h]
  show fieldOf f (v &&& 0#64) = 0#64
  rw [BitVec.and_zero]; exact fieldOf_zero f

/-- The complement of a mask that covers a field misses it, and the other way round. -/
theorem not_misses_of_covers (f : Field) (m : Word) (h : m &&& fieldMask f = fieldMask f) :
    ~~~m &&& fieldMask f = 0 := by
  rw [← h]; ext i hi; simp; grind

theorem not_covers_of_misses (f : Field) (m : Word) (h : m &&& fieldMask f = 0) :
    ~~~m &&& fieldMask f = fieldMask f := by
  ext i hi
  have := congrArg (fun w : Word => w[i]) h
  simp at this ⊢; grind

/-- A field of an implemented-bits mask. -/
theorem fieldOf_and_implMask (c : Config) (f : Field) (v : Word) :
    fieldOf f (v &&& implMask c) = if impl c f then fieldOf f v else 0 :=
  fieldOf_and_mask _ _ _

theorem fieldOf_and_res0Mask (c : Config) (f : Field) (v : Word) :
    fieldOf f (v &&& res0Mask c) = if impl c f then 0 else fieldOf f v :=
  fieldOf_and_not_mask _ _ _

/-- What a write keeps of an implemented field is all of it (R29). -/
theorem fieldOf_and_keepMask (c : Config) (f : Field) (v : Word) (h : impl c f = true) :
    fieldOf f (v &&& keepMask c) = fieldOf f v := by
  have h1 := fieldOf_and_implMask c f v
  rw [if_pos h] at h1
  have h2 : fieldMask f &&& keepMask c = fieldMask f := by
    have := maskOf_filter_and_fieldMask (impl c) f
    rw [if_pos h] at this
    unfold keepMask implMask
    ext i hi
    have := congrArg (fun w : Word => w[i]) this
    simp at this ⊢
    grind
  rw [← fieldOf_and_fieldMask, BitVec.and_assoc, BitVec.and_comm (keepMask c), h2, fieldOf_and_fieldMask]

/-- The value of a field fits its width. -/
theorem fieldOf_toNat_lt (f : Field) (v : Word) : (fieldOf f v).toNat < 2 ^ fieldWidth f := by
  have hm : ∀ f ∈ allFields, (fieldMask f).toNat < 2 ^ fieldWidth f * 2 ^ fieldLsb f := by decide +kernel
  have h1 : (v &&& fieldMask f).toNat ≤ (fieldMask f).toNat := by
    rw [BitVec.toNat_and]; exact Nat.and_le_right
  have h2 := hm f (mem_allFields f)
  rw [fieldOf, BitVec.toNat_ushiftRight, Nat.shiftRight_eq_div_pow]
  exact Nat.div_lt_of_lt_mul (by rw [Nat.mul_comm]; omega)

/-- A reserved encoding is held by implemented fields only (R31). -/
theorem impl_of_holdsReserved (c : Config) (v : Word) (f : Field) (h : holdsReserved c v f = true) :
    impl c f = true := by
  cases f <;> simp_all [holdsReserved, tbReserved, pbReserved, variant, impl] <;> grind

/-- The bits of reserved encodings are implemented bits. -/
theorem reservedMask_and_implMask (c : Config) (v : Word) :
    reservedMask c v &&& implMask c = reservedMask c v := by
  ext i hi
  have : (reservedMask c v).getLsbD i = true → (implMask c).getLsbD i = true := by
    unfold reservedMask implMask
    rw [getLsbD_maskOf, getLsbD_maskOf, List.any_eq_true, List.any_eq_true]
    rintro ⟨f, hf, hb⟩
    rw [List.mem_filter] at hf
    exact ⟨f, List.mem_filter.2 ⟨hf.1, impl_of_holdsReserved c v f hf.2⟩, hb⟩
  simp [← BitVec.getLsbD_eq_getElem] at this ⊢
  exact this

end Sys2Proof.Machine
end

