-- ==== Sys2Proof/Laws/Memory.lean ====
section
/-! SUPPORT. The host's instruction memory: read after write, and the canonical form is kept. -/

namespace Sys2Proof.Machine

/-- A read after a write gives the value written at that address and the old value elsewhere. -/
theorem Memory.read_write (m : Memory) (k k' : Nat) (v : Byte) :
    Memory.read (Memory.write m k v) k' = if k = k' then some v else Memory.read m k' := by
  induction m with
  | nil => simp [Memory.write, Memory.read]
  | cons h m ih =>
    obtain ⟨a, b⟩ := h
    unfold Memory.write
    split
    · simp [Memory.read]
    · split
      · subst_vars; simp [Memory.read]; split <;> simp_all
      · rename_i h1 h2
        by_cases ha : a = k'
        · subst ha; simp [Memory.read, h2]
        · simp [Memory.read, ha, ih]

/-- The first address of a non-empty memory. -/
def Memory.head? : Memory → Option Nat
  | [] => none
  | (a, _) :: _ => some a

theorem Memory.head?_write (m : Memory) (k : Nat) (v : Byte) :
    Memory.head? (Memory.write m k v) = some (match Memory.head? m with
      | none => k
      | some a => min a k) := by
  cases m with
  | nil => rfl
  | cons h m =>
    obtain ⟨a, b⟩ := h
    unfold Memory.write
    split
    · simp [Memory.head?]; omega
    · split <;> simp [Memory.head?] <;> omega

/-- The canonical form of a list with a first entry. -/
theorem Memory.wf_cons (a : Nat) (b : Byte) (m : Memory) :
    Memory.wf ((a, b) :: m) = true ↔
      a < 2 ^ 64 ∧ Memory.wf m = true ∧ ∀ c, Memory.head? m = some c → a < c := by
  induction m generalizing a b with
  | nil => simp [Memory.wf, Memory.head?]
  | cons h m ih =>
    obtain ⟨c, d⟩ := h
    have := ih c d
    simp only [Memory.wf, Memory.head?, Bool.and_eq_true, decide_eq_true_eq, Option.some.injEq,
      forall_eq'] at *
    constructor
    · rintro ⟨h1, h2⟩
      have := (this.1 h2).1
      exact ⟨by omega, h2, h1⟩
    · rintro ⟨_, h2, h1⟩
      exact ⟨h1, h2⟩

/-- A write below 2^64 keeps the canonical form. -/
theorem Memory.wf_write (m : Memory) (k : Nat) (v : Byte) (hk : k < 2 ^ 64) (h : Memory.wf m = true) :
    Memory.wf (Memory.write m k v) = true := by
  induction m with
  | nil => simpa [Memory.write, Memory.wf] using hk
  | cons e m ih =>
    obtain ⟨a, b⟩ := e
    obtain ⟨h1, h2, h3⟩ := (Memory.wf_cons a b m).1 h
    unfold Memory.write
    split
    · exact (Memory.wf_cons _ _ _).2 ⟨hk, h, by simpa [Memory.head?] using ‹k < a›⟩
    · split
      · subst_vars; exact (Memory.wf_cons _ _ _).2 ⟨hk, h2, h3⟩
      · refine (Memory.wf_cons _ _ _).2 ⟨h1, ih h2, ?_⟩
        intro c hc
        rw [Memory.head?_write] at hc
        cases hm : Memory.head? m with
        | none => rw [hm] at hc; simp at hc; omega
        | some d =>
          have := h3 d hm
          rw [hm] at hc; simp at hc; omega

/-- Writing bytes keeps the canonical form. -/
theorem Memory.wf_writeBytes (bs : List Byte) (m : Memory) (pc : Word) (h : Memory.wf m = true) :
    Memory.wf (Memory.writeBytes m pc bs) = true := by
  induction bs generalizing m pc with
  | nil => exact h
  | cons b bs ih => exact ih _ _ (Memory.wf_write _ _ _ pc.isLt h)

/-- Bytes written at other addresses do not change a read. -/
theorem Memory.read_writeBytes_of_notMem (bs : List Byte) (m : Memory) (pc : Word) (k : Nat)
    (h : ∀ j < bs.length, (pc + BitVec.ofNat 64 j).toNat ≠ k) :
    Memory.read (Memory.writeBytes m pc bs) k = Memory.read m k := by
  induction bs generalizing m pc with
  | nil => rfl
  | cons b bs ih =>
    rw [Memory.writeBytes, ih, Memory.read_write, if_neg]
    · simpa using h 0 (by simp)
    · intro j hj
      have := h (j + 1) (by simpa using hj)
      rwa [show pc + 1 + BitVec.ofNat 64 j = pc + BitVec.ofNat 64 (j + 1) by
        simp only [BitVec.ofNat_add]; ac_rfl]

/-- Reading back the bytes just written, for as many bytes as the address space holds. -/
theorem Memory.readBytes_writeBytes (bs : List Byte) (m : Memory) (pc : Word)
    (hl : bs.length ≤ 2 ^ 64) :
    Memory.readBytes (Memory.writeBytes m pc bs) pc bs.length = some bs := by
  induction bs generalizing m pc with
  | nil => rfl
  | cons b bs ih =>
    have h1 : Memory.read (Memory.writeBytes m pc (b :: bs)) pc.toNat = some b := by
      rw [Memory.writeBytes, Memory.read_writeBytes_of_notMem, Memory.read_write, if_pos rfl]
      intro j hj
      simp only [List.length_cons] at hl
      bv_omega
    simp only [List.length_cons, Memory.readBytes, h1]
    rw [Memory.writeBytes, ih _ _ (by simp only [List.length_cons] at hl; omega)]

end Sys2Proof.Machine
end

