-- ==== Sys2Proof/Laws/State.lean ====
section
/-! SUPPORT. One lemma per field per update of State, so that no proof unfolds a record update. -/

namespace Sys2Proof.Machine

@[simp] theorem State.draw_cfg (s : State) : s.draw.cfg = s.cfg := rfl
@[simp] theorem State.draw_mdcr (s : State) : s.draw.mdcr = s.mdcr := rfl
@[simp] theorem State.draw_mdcrEff (s : State) : s.draw.mdcrEff = s.mdcrEff := rfl
@[simp] theorem State.draw_x (s : State) : s.draw.x = s.x := rfl
@[simp] theorem State.draw_pc (s : State) : s.draw.pc = s.pc := rfl
@[simp] theorem State.draw_el (s : State) : s.draw.el = s.el := rfl
@[simp] theorem State.draw_nzcv (s : State) : s.draw.nzcv = s.nzcv := rfl
@[simp] theorem State.draw_env (s : State) : s.draw.env = s.env := rfl
@[simp] theorem State.draw_mem (s : State) : s.draw.mem = s.mem := rfl
@[simp] theorem State.draw_inbox (s : State) : s.draw.inbox = s.inbox := rfl
@[simp] theorem State.draw_answer (s : State) : s.draw.answer = s.answer := rfl
@[simp] theorem State.draw_draws (s : State) : s.draw.draws = s.draws + 1 := rfl

@[simp] theorem State.complete_cfg (s : State) : s.complete.cfg = s.cfg := rfl
@[simp] theorem State.complete_mdcr (s : State) : s.complete.mdcr = s.mdcr := rfl
@[simp] theorem State.complete_mdcrEff (s : State) : s.complete.mdcrEff = s.mdcrEff := rfl
@[simp] theorem State.complete_x (s : State) : s.complete.x = s.x := rfl
@[simp] theorem State.complete_pc (s : State) : s.complete.pc = s.pc + 4 := rfl
@[simp] theorem State.complete_el (s : State) : s.complete.el = s.el := rfl
@[simp] theorem State.complete_nzcv (s : State) : s.complete.nzcv = s.nzcv := rfl
@[simp] theorem State.complete_env (s : State) : s.complete.env = s.env := rfl
@[simp] theorem State.complete_mem (s : State) : s.complete.mem = s.mem := rfl
@[simp] theorem State.complete_inbox (s : State) : s.complete.inbox = s.inbox := rfl
@[simp] theorem State.complete_answer (s : State) : s.complete.answer = s.answer := rfl
@[simp] theorem State.complete_draws (s : State) : s.complete.draws = s.draws + 1 := rfl

@[simp] theorem State.writeMDCR_cfg (s : State) (v : Word) : (s.writeMDCR v).cfg = s.cfg := rfl
@[simp] theorem State.writeMDCR_mdcr (s : State) (v : Word) :
    (s.writeMDCR v).mdcr =
      ⟨storedBits s.cfg s.draws v, 0, nextChoice s.mdcr s.draws (storedBits s.cfg s.draws v)⟩ := rfl
@[simp] theorem State.writeMDCR_mdcrEff (s : State) (v : Word) : (s.writeMDCR v).mdcrEff = s.mdcrEff := rfl
@[simp] theorem State.writeMDCR_x (s : State) (v : Word) : (s.writeMDCR v).x = s.x := rfl
@[simp] theorem State.writeMDCR_pc (s : State) (v : Word) : (s.writeMDCR v).pc = s.pc := rfl
@[simp] theorem State.writeMDCR_el (s : State) (v : Word) : (s.writeMDCR v).el = s.el := rfl
@[simp] theorem State.writeMDCR_nzcv (s : State) (v : Word) : (s.writeMDCR v).nzcv = s.nzcv := rfl
@[simp] theorem State.writeMDCR_env (s : State) (v : Word) : (s.writeMDCR v).env = s.env := rfl
@[simp] theorem State.writeMDCR_mem (s : State) (v : Word) : (s.writeMDCR v).mem = s.mem := rfl
@[simp] theorem State.writeMDCR_inbox (s : State) (v : Word) : (s.writeMDCR v).inbox = s.inbox := rfl
@[simp] theorem State.writeMDCR_answer (s : State) (v : Word) : (s.writeMDCR v).answer = s.answer := rfl
@[simp] theorem State.writeMDCR_draws (s : State) (v : Word) : (s.writeMDCR v).draws = s.draws := rfl

@[simp] theorem State.contextSync_cfg (s : State) : s.contextSync.cfg = s.cfg := rfl
@[simp] theorem State.contextSync_mdcr (s : State) : s.contextSync.mdcr = s.mdcr := rfl
@[simp] theorem State.contextSync_mdcrEff (s : State) : s.contextSync.mdcrEff = s.mdcr := rfl
@[simp] theorem State.contextSync_x (s : State) : s.contextSync.x = s.x := rfl
@[simp] theorem State.contextSync_pc (s : State) : s.contextSync.pc = s.pc := rfl
@[simp] theorem State.contextSync_el (s : State) : s.contextSync.el = s.el := rfl
@[simp] theorem State.contextSync_nzcv (s : State) : s.contextSync.nzcv = s.nzcv := rfl
@[simp] theorem State.contextSync_env (s : State) : s.contextSync.env = s.env := rfl
@[simp] theorem State.contextSync_mem (s : State) : s.contextSync.mem = s.mem := rfl
@[simp] theorem State.contextSync_inbox (s : State) : s.contextSync.inbox = s.inbox := rfl
@[simp] theorem State.contextSync_answer (s : State) : s.contextSync.answer = s.answer := rfl
@[simp] theorem State.contextSync_draws (s : State) : s.contextSync.draws = s.draws := rfl

@[simp] theorem State.setInputs_cfg (s : State) (env : Env) : (s.setInputs env).cfg = s.cfg := by
  unfold State.setInputs; split <;> rfl
@[simp] theorem State.setInputs_mdcr (s : State) (env : Env) : (s.setInputs env).mdcr = s.mdcr := by
  unfold State.setInputs; split <;> rfl
@[simp] theorem State.setInputs_x (s : State) (env : Env) : (s.setInputs env).x = s.x := by
  unfold State.setInputs; split <;> rfl
@[simp] theorem State.setInputs_pc (s : State) (env : Env) : (s.setInputs env).pc = s.pc := by
  unfold State.setInputs; split <;> rfl
@[simp] theorem State.setInputs_el (s : State) (env : Env) : (s.setInputs env).el = s.el := by
  unfold State.setInputs; split <;> rfl
@[simp] theorem State.setInputs_nzcv (s : State) (env : Env) : (s.setInputs env).nzcv = s.nzcv := by
  unfold State.setInputs; split <;> rfl
@[simp] theorem State.setInputs_mem (s : State) (env : Env) : (s.setInputs env).mem = s.mem := by
  unfold State.setInputs; split <;> rfl
@[simp] theorem State.setInputs_inbox (s : State) (env : Env) : (s.setInputs env).inbox = s.inbox := by
  unfold State.setInputs; split <;> rfl
@[simp] theorem State.setInputs_answer (s : State) (env : Env) : (s.setInputs env).answer = s.answer := by
  unfold State.setInputs; split <;> rfl
@[simp] theorem State.setInputs_draws (s : State) (env : Env) : (s.setInputs env).draws = s.draws := by
  unfold State.setInputs; split <;> rfl
@[simp] theorem State.setInputs_env (s : State) (env : Env) : (s.setInputs env).env = env := rfl
/-- New inputs load the shadow exactly when they end Debug state; in either case it holds the old or the new
contents (R108; log entry 15). -/
theorem State.setInputs_mdcrEff (s : State) (env : Env) :
    (s.setInputs env).mdcrEff = s.mdcrEff ∨ (s.setInputs env).mdcrEff = s.mdcr := by
  unfold State.setInputs; split
  · exact .inr rfl
  · exact .inl rfl

@[simp] theorem State.enterException_cfg (s : State) (e : HostEntry) : (s.enterException e).cfg = s.cfg := rfl
@[simp] theorem State.enterException_mdcr (s : State) (e : HostEntry) : (s.enterException e).mdcr = s.mdcr := rfl
@[simp] theorem State.enterException_mdcrEff (s : State) (e : HostEntry) : (s.enterException e).mdcrEff = s.mdcr := rfl
@[simp] theorem State.enterException_x (s : State) (e : HostEntry) : (s.enterException e).x = s.x := rfl
@[simp] theorem State.enterException_pc (s : State) (e : HostEntry) : (s.enterException e).pc = e.pc := rfl
@[simp] theorem State.enterException_el (s : State) (e : HostEntry) : (s.enterException e).el = e.target := rfl
@[simp] theorem State.enterException_nzcv (s : State) (e : HostEntry) : (s.enterException e).nzcv = s.nzcv := rfl
@[simp] theorem State.enterException_env (s : State) (e : HostEntry) : (s.enterException e).env = { s.env with ss := e.ss } := rfl
@[simp] theorem State.enterException_mem (s : State) (e : HostEntry) : (s.enterException e).mem = s.mem := rfl
@[simp] theorem State.enterException_inbox (s : State) (e : HostEntry) : (s.enterException e).inbox = s.inbox := rfl
@[simp] theorem State.enterException_answer (s : State) (e : HostEntry) : (s.enterException e).answer = s.answer := rfl
@[simp] theorem State.enterException_draws (s : State) (e : HostEntry) : (s.enterException e).draws = s.draws := rfl

@[simp] theorem State.returnException_cfg (s : State) (e : HostEntry) : (s.returnException e).cfg = s.cfg := rfl
@[simp] theorem State.returnException_mdcr (s : State) (e : HostEntry) : (s.returnException e).mdcr = s.mdcr := rfl
@[simp] theorem State.returnException_mdcrEff (s : State) (e : HostEntry) : (s.returnException e).mdcrEff = s.mdcr := rfl
@[simp] theorem State.returnException_x (s : State) (e : HostEntry) : (s.returnException e).x = s.x := rfl
@[simp] theorem State.returnException_pc (s : State) (e : HostEntry) : (s.returnException e).pc = e.pc := rfl
@[simp] theorem State.returnException_el (s : State) (e : HostEntry) : (s.returnException e).el = e.target := rfl
@[simp] theorem State.returnException_nzcv (s : State) (e : HostEntry) : (s.returnException e).nzcv = s.nzcv := rfl
@[simp] theorem State.returnException_env (s : State) (e : HostEntry) : (s.returnException e).env = { s.env with ss := e.ss } := rfl
@[simp] theorem State.returnException_mem (s : State) (e : HostEntry) : (s.returnException e).mem = s.mem := rfl
@[simp] theorem State.returnException_inbox (s : State) (e : HostEntry) : (s.returnException e).inbox = s.inbox := rfl
@[simp] theorem State.returnException_answer (s : State) (e : HostEntry) : (s.returnException e).answer = s.answer := rfl
@[simp] theorem State.returnException_draws (s : State) (e : HostEntry) : (s.returnException e).draws = s.draws := rfl

@[simp] theorem State.takeTrapToEL3_cfg (s : State) (ec : EC) (e : HostEntry) : (s.takeTrapToEL3 ec e).cfg = s.cfg := rfl
@[simp] theorem State.takeTrapToEL3_mdcr (s : State) (ec : EC) (e : HostEntry) : (s.takeTrapToEL3 ec e).mdcr = s.mdcr := rfl
@[simp] theorem State.takeTrapToEL3_mdcrEff (s : State) (ec : EC) (e : HostEntry) : (s.takeTrapToEL3 ec e).mdcrEff = s.mdcr := rfl
@[simp] theorem State.takeTrapToEL3_x (s : State) (ec : EC) (e : HostEntry) : (s.takeTrapToEL3 ec e).x = s.x := rfl
@[simp] theorem State.takeTrapToEL3_pc (s : State) (ec : EC) (e : HostEntry) : (s.takeTrapToEL3 ec e).pc = e.pc := rfl
@[simp] theorem State.takeTrapToEL3_el (s : State) (ec : EC) (e : HostEntry) : (s.takeTrapToEL3 ec e).el = .EL3 := rfl
@[simp] theorem State.takeTrapToEL3_nzcv (s : State) (ec : EC) (e : HostEntry) : (s.takeTrapToEL3 ec e).nzcv = s.nzcv := rfl
@[simp] theorem State.takeTrapToEL3_env (s : State) (ec : EC) (e : HostEntry) : (s.takeTrapToEL3 ec e).env = { s.env with ss := e.ss } := rfl
@[simp] theorem State.takeTrapToEL3_mem (s : State) (ec : EC) (e : HostEntry) : (s.takeTrapToEL3 ec e).mem = s.mem := rfl
@[simp] theorem State.takeTrapToEL3_inbox (s : State) (ec : EC) (e : HostEntry) : (s.takeTrapToEL3 ec e).inbox = s.inbox := rfl
@[simp] theorem State.takeTrapToEL3_answer (s : State) (ec : EC) (e : HostEntry) : (s.takeTrapToEL3 ec e).answer = some (.trapped ec) := rfl
@[simp] theorem State.takeTrapToEL3_draws (s : State) (ec : EC) (e : HostEntry) : (s.takeTrapToEL3 ec e).draws = s.draws := rfl

@[simp] theorem State.takeUndefined_cfg (s : State) (e : HostEntry) : (s.takeUndefined e).cfg = s.cfg := rfl
@[simp] theorem State.takeUndefined_mdcr (s : State) (e : HostEntry) : (s.takeUndefined e).mdcr = s.mdcr := rfl
@[simp] theorem State.takeUndefined_mdcrEff (s : State) (e : HostEntry) : (s.takeUndefined e).mdcrEff = s.mdcr := rfl
@[simp] theorem State.takeUndefined_x (s : State) (e : HostEntry) : (s.takeUndefined e).x = s.x := rfl
@[simp] theorem State.takeUndefined_pc (s : State) (e : HostEntry) : (s.takeUndefined e).pc = e.pc := rfl
@[simp] theorem State.takeUndefined_el (s : State) (e : HostEntry) : (s.takeUndefined e).el = e.target := rfl
@[simp] theorem State.takeUndefined_nzcv (s : State) (e : HostEntry) : (s.takeUndefined e).nzcv = s.nzcv := rfl
@[simp] theorem State.takeUndefined_env (s : State) (e : HostEntry) : (s.takeUndefined e).env = { s.env with ss := e.ss } := rfl
@[simp] theorem State.takeUndefined_mem (s : State) (e : HostEntry) : (s.takeUndefined e).mem = s.mem := rfl
@[simp] theorem State.takeUndefined_inbox (s : State) (e : HostEntry) : (s.takeUndefined e).inbox = s.inbox := rfl
@[simp] theorem State.takeUndefined_answer (s : State) (e : HostEntry) : (s.takeUndefined e).answer = some .undefinedTaken := rfl
@[simp] theorem State.takeUndefined_draws (s : State) (e : HostEntry) : (s.takeUndefined e).draws = s.draws := rfl

@[simp] theorem State.afterReset_cfg (s : State) (r : ResetSupply) (m : Stored) : (s.afterReset r m).cfg = s.cfg := rfl
@[simp] theorem State.afterReset_mdcr (s : State) (r : ResetSupply) (m : Stored) : (s.afterReset r m).mdcr = m := rfl
@[simp] theorem State.afterReset_mdcrEff (s : State) (r : ResetSupply) (m : Stored) : (s.afterReset r m).mdcrEff = m := rfl
@[simp] theorem State.afterReset_x (s : State) (r : ResetSupply) (m : Stored) : (s.afterReset r m).x = r.x := rfl
@[simp] theorem State.afterReset_pc (s : State) (r : ResetSupply) (m : Stored) : (s.afterReset r m).pc = r.pc := rfl
@[simp] theorem State.afterReset_el (s : State) (r : ResetSupply) (m : Stored) : (s.afterReset r m).el = r.el := rfl
@[simp] theorem State.afterReset_nzcv (s : State) (r : ResetSupply) (m : Stored) : (s.afterReset r m).nzcv = r.nzcv := rfl
@[simp] theorem State.afterReset_env (s : State) (r : ResetSupply) (m : Stored) : (s.afterReset r m).env = { s.env with ss := r.ss } := rfl
@[simp] theorem State.afterReset_mem (s : State) (r : ResetSupply) (m : Stored) : (s.afterReset r m).mem = s.mem := rfl
@[simp] theorem State.afterReset_inbox (s : State) (r : ResetSupply) (m : Stored) : (s.afterReset r m).inbox = s.inbox := rfl
@[simp] theorem State.afterReset_answer (s : State) (r : ResetSupply) (m : Stored) : (s.afterReset r m).answer = s.answer := rfl
@[simp] theorem State.afterReset_draws (s : State) (r : ResetSupply) (m : Stored) : (s.afterReset r m).draws = s.draws + 2 := rfl

@[simp] theorem State.announce_cfg (s : State) (a : Answer) : (s.announce a).cfg = s.cfg := rfl
@[simp] theorem State.announce_mdcr (s : State) (a : Answer) : (s.announce a).mdcr = s.mdcr := rfl
@[simp] theorem State.announce_mdcrEff (s : State) (a : Answer) : (s.announce a).mdcrEff = s.mdcrEff := rfl
@[simp] theorem State.announce_x (s : State) (a : Answer) : (s.announce a).x = s.x := rfl
@[simp] theorem State.announce_pc (s : State) (a : Answer) : (s.announce a).pc = s.pc := rfl
@[simp] theorem State.announce_el (s : State) (a : Answer) : (s.announce a).el = s.el := rfl
@[simp] theorem State.announce_nzcv (s : State) (a : Answer) : (s.announce a).nzcv = s.nzcv := rfl
@[simp] theorem State.announce_env (s : State) (a : Answer) : (s.announce a).env = s.env := rfl
@[simp] theorem State.announce_mem (s : State) (a : Answer) : (s.announce a).mem = s.mem := rfl
@[simp] theorem State.announce_inbox (s : State) (a : Answer) : (s.announce a).inbox = s.inbox := rfl
@[simp] theorem State.announce_answer (s : State) (a : Answer) : (s.announce a).answer = some a := rfl
@[simp] theorem State.announce_draws (s : State) (a : Answer) : (s.announce a).draws = s.draws + 1 := rfl

@[simp] theorem State.placeWord_cfg (s : State) (w : InsnWord) : (s.placeWord w).cfg = s.cfg := rfl
@[simp] theorem State.placeWord_mdcr (s : State) (w : InsnWord) : (s.placeWord w).mdcr = s.mdcr := rfl
@[simp] theorem State.placeWord_mdcrEff (s : State) (w : InsnWord) : (s.placeWord w).mdcrEff = s.mdcrEff := rfl
@[simp] theorem State.placeWord_x (s : State) (w : InsnWord) : (s.placeWord w).x = s.x := rfl
@[simp] theorem State.placeWord_pc (s : State) (w : InsnWord) : (s.placeWord w).pc = s.pc := rfl
@[simp] theorem State.placeWord_el (s : State) (w : InsnWord) : (s.placeWord w).el = s.el := rfl
@[simp] theorem State.placeWord_nzcv (s : State) (w : InsnWord) : (s.placeWord w).nzcv = s.nzcv := rfl
@[simp] theorem State.placeWord_env (s : State) (w : InsnWord) : (s.placeWord w).env = s.env := rfl
@[simp] theorem State.placeWord_mem (s : State) (w : InsnWord) : (s.placeWord w).mem = Memory.writeBytes s.mem s.pc (bytesOfWord w) := rfl
@[simp] theorem State.placeWord_inbox (s : State) (w : InsnWord) : (s.placeWord w).inbox = [] := rfl
@[simp] theorem State.placeWord_answer (s : State) (w : InsnWord) : (s.placeWord w).answer = s.answer := rfl
@[simp] theorem State.placeWord_draws (s : State) (w : InsnWord) : (s.placeWord w).draws = s.draws := rfl

@[simp] theorem State.writeX_cfg (s : State) (t : BitVec 5) (v : Word) : (s.writeX t v).cfg = s.cfg := by
  unfold State.writeX; split <;> rfl
@[simp] theorem State.writeX_mdcr (s : State) (t : BitVec 5) (v : Word) : (s.writeX t v).mdcr = s.mdcr := by
  unfold State.writeX; split <;> rfl
@[simp] theorem State.writeX_mdcrEff (s : State) (t : BitVec 5) (v : Word) : (s.writeX t v).mdcrEff = s.mdcrEff := by
  unfold State.writeX; split <;> rfl
@[simp] theorem State.writeX_pc (s : State) (t : BitVec 5) (v : Word) : (s.writeX t v).pc = s.pc := by
  unfold State.writeX; split <;> rfl
@[simp] theorem State.writeX_el (s : State) (t : BitVec 5) (v : Word) : (s.writeX t v).el = s.el := by
  unfold State.writeX; split <;> rfl
@[simp] theorem State.writeX_nzcv (s : State) (t : BitVec 5) (v : Word) : (s.writeX t v).nzcv = s.nzcv := by
  unfold State.writeX; split <;> rfl
@[simp] theorem State.writeX_env (s : State) (t : BitVec 5) (v : Word) : (s.writeX t v).env = s.env := by
  unfold State.writeX; split <;> rfl
@[simp] theorem State.writeX_mem (s : State) (t : BitVec 5) (v : Word) : (s.writeX t v).mem = s.mem := by
  unfold State.writeX; split <;> rfl
@[simp] theorem State.writeX_inbox (s : State) (t : BitVec 5) (v : Word) : (s.writeX t v).inbox = s.inbox := by
  unfold State.writeX; split <;> rfl
@[simp] theorem State.writeX_answer (s : State) (t : BitVec 5) (v : Word) : (s.writeX t v).answer = s.answer := by
  unfold State.writeX; split <;> rfl
@[simp] theorem State.writeX_draws (s : State) (t : BitVec 5) (v : Word) : (s.writeX t v).draws = s.draws := by
  unfold State.writeX; split <;> rfl

/-- X[t] after a write, as a vector: register 31 changes nothing (R21). -/
theorem State.writeX_x (s : State) (t : BitVec 5) (v : Word) :
    (s.writeX t v).x = if h : t.toNat < 31 then s.x.set t.toNat v else s.x := by
  unfold State.writeX; split <;> rfl

end Sys2Proof.Machine
end

