-- ==== Sys2Proof/Laws/Ops.lean ====
section
/-! SUPPORT. One lemma per shared operation that says once everything it can do: the operand, reading and
writing MDCR_EL3, the in-force value, reset, handing an exception over, and the inversion of each
instruction, host event and step. -/

namespace Sys2Proof.Machine

-- one proof at a time: proofs that wait for the kernel each hold a thread
set_option Elab.async false

/-! ## The operand -/

@[simp] theorem State.readX_31 (s : State) : s.readX 31 = 0 := rfl

/-- A register number other than 31 is a register (R21). -/
theorem toNat_lt_31 {t : BitVec 5} (h : t ≠ 31) : t.toNat < 31 := by
  have := t.isLt; bv_omega

/-- X[t] holds what was written to it (R21). -/
theorem State.readX_of_x {s : State} {x : Vector Word 31} {t : BitVec 5} {v : Word} (h : t ≠ 31)
    (hx : s.x = if h : t.toNat < 31 then x.set t.toNat v else x) : s.readX t = v := by
  have := toNat_lt_31 h
  simp [State.readX, hx, this]

/-- X[t] depends on the registers only. -/
theorem State.readX_congr {s s' : State} (h : s.x = s'.x) (t : BitVec 5) : s.readX t = s'.readX t := by
  simp [State.readX, h]

/-! ## Reading and writing MDCR_EL3 -/

/-- A read sees the stored bits that are not UNKNOWN (R343). -/
theorem State.seen_defined (s : State) (m : Stored) :
    s.seen m &&& ~~~m.unknown = m.bits &&& ~~~m.unknown := by
  unfold State.seen
  split
  · rfl
  · ext i hi; simp; grind

/-- Mixing in no bit of a draw changes nothing. -/
theorem mix_zero (a b : Word) : (a &&& ~~~0) ||| (b &&& 0) = a := by
  rw [show (~~~(0 : Word)) = BitVec.allOnes 64 from rfl, BitVec.and_allOnes]; simp

/-- A value with no UNKNOWN bit reads as it is stored. -/
theorem State.seen_eq (s : State) (m : Stored) (h : m.unknown = 0) : s.seen m = m.bits := by
  simp only [State.seen, h, mix_zero, ite_self]

/-- With `UNKNOWN_STABLE` every value reads as it is stored (R343). -/
theorem State.seen_stable (s : State) (m : Stored) (h : s.cfg.UNKNOWN_STABLE = true) : s.seen m = m.bits := by
  simp [State.seen, h]

/-- Redrawing touches only the bits of fields that hold a reserved encoding (R31). -/
theorem reservedReadback_and (c : Config) (k : Nat) (u : Word) :
    reservedReadback c k u &&& ~~~reservedMask c u = u &&& ~~~reservedMask c u := by
  unfold reservedReadback
  split
  · rfl
  · ext i hi; simp; grind

/-- Nothing is redrawn under `AsWritten`, or when no field holds a reserved encoding (R31). -/
theorem reservedReadback_eq (c : Config) (k : Nat) (u : Word)
    (h : c.RESERVED_READBACK = .AsWritten ∨ reservedMask c u = 0) : reservedReadback c k u = u := by
  rcases h with h | h
  · simp [reservedReadback, h]
  · unfold reservedReadback
    split
    · rfl
    · rw [h, mix_zero]

/-- A stored value has only bits that can be stored (R29, R141). -/
theorem storedBits_within (c : Config) (k : Nat) (v : Word) : storedBits c k v &&& ~~~keepMask c = 0 := by
  have h := reservedMask_and_implMask c (v &&& keepMask c)
  unfold storedBits reservedReadback
  split
  · ext i hi; simp
  · generalize reservedMask c (v &&& keepMask c) = m at h
    ext i hi
    have := congrArg (fun w : Word => w[i]) h
    simp [keepMask] at this ⊢
    grind

/-- A field that holds no reserved encoding is stored as written (R30, R141). -/
theorem fieldOf_storedBits (c : Config) (k : Nat) (v : Word) (f : Field) (hi : impl c f = true)
    (hr : holdsReserved c (v &&& keepMask c) f = false) : fieldOf f (storedBits c k v) = fieldOf f v := by
  have h := congrArg (fieldOf f) (reservedReadback_and c k (v &&& keepMask c))
  simp only [reservedMask, fieldOf_and_not_mask, hr, Bool.false_eq_true, if_false] at h
  rw [storedBits, h, fieldOf_and_keepMask c f v hi]

/-- Whether a field holds a reserved encoding depends on what is stored of it only. -/
theorem holdsReserved_and_keepMask (c : Config) (v : Word) (f : Field) :
    holdsReserved c (v &&& keepMask c) f = holdsReserved c v f := by
  have h := fun g => fieldOf_and_keepMask c g v
  have tb : tbReserved c (v &&& keepMask c) = tbReserved c v := by
    unfold tbReserved
    cases h1 : (variant c .NSTB == 1)
    · rfl
    · have h2 : impl c .NSTB = true ∧ impl c .NSTBE = true := by
        simp [variant, impl] at h1 ⊢; grind
      rw [h _ h2.1, h _ h2.2]
  have pb : pbReserved c (v &&& keepMask c) = pbReserved c v := by
    unfold pbReserved
    cases h1 : (variant c .NSPB == 1)
    · rfl
    · have h2 : impl c .NSPB = true ∧ impl c .NSPBE = true := by
        simp [variant, impl] at h1 ⊢; grind
      rw [h _ h2.1, h _ h2.2]
  cases f
  case PMEE => simp only [holdsReserved]; cases hi : impl c .PMEE <;> simp [h _, hi]
  case SPD32 => simp only [holdsReserved]; cases hi : impl c .SPD32 <;> simp [h _, hi]
  case ETBAD => simp only [holdsReserved]; cases hi : impl c .ETBAD <;> simp [h _, hi]
  case EPMSSAD => simp only [holdsReserved]; cases hi : impl c .EPMSSAD <;> simp [h _, hi]
  case NSTB => simpa only [holdsReserved] using tb
  case NSTBE => simpa only [holdsReserved] using tb
  case NSPB => simpa only [holdsReserved] using pb
  case NSPBE => simpa only [holdsReserved] using pb
  all_goals rfl

theorem reservedMask_and_keepMask (c : Config) (v : Word) :
    reservedMask c (v &&& keepMask c) = reservedMask c v := by
  unfold reservedMask
  congr 1
  exact List.filter_congr fun f _ => holdsReserved_and_keepMask c v f

/-- The value in force is MDCR_EL3's or the shadow's, MDCR_EL3's under `Immediate` (R108). -/
theorem State.inForce_cases (s : State) :
    s.inForce = s.mdcr ∨ (s.cfg.SYNC_MODEL = .UntilCSE ∧ s.inForce = s.mdcrEff) := by
  unfold State.inForce
  cases s.cfg.SYNC_MODEL
  · exact .inl rfl
  · by_cases h : Config.freeSeesOld s.draws = true
    · exact .inr ⟨rfl, by simp [h]⟩
    · exact .inl (by simp [h])

/-! ## Reset -/

theorem auMask_eq : auMask = 0x008494930F09FEC0 := by decide +kernel
theorem coldMask_eq : coldMask = 0x00000040D0000000 := by decide +kernel
theorem coldValue_eq : coldValue = 0x0000000010000000 := by decide +kernel
theorem warmZeroMask_eq : warmZeroMask = 0x007B6B2C00F6001D := by decide +kernel

/-- A reset leaves only bits that can be stored (R342). -/
theorem warmResetBits_within (c : Config) (u r old : Word) :
    warmResetBits c u r old &&& ~~~keepMask c = 0 := by
  ext i hi; simp [warmResetBits, keepMask]; grind

theorem coldResetBits_within (c : Config) (u r old : Word) :
    coldResetBits c u r old &&& ~~~keepMask c = 0 := by
  ext i hi; simp [coldResetBits, warmResetBits, keepMask]; grind

/-- What a reset leaves of a register that exists, and of one that does not (R127, R342). -/
theorem resetStored_of_exists {c : Config} (h : registerExists c = true) (k : Nat) (b : Word) :
    resetStored c k b = { bits := b, unknown := auMask &&& implMask c, choice := k } := by simp [resetStored, h]

theorem resetStored_of_absent {c : Config} (h : registerExists c = false) (k : Nat) (b : Word) :
    resetStored c k b = .absent := by simp [resetStored, h]

/-! ## Handing an exception to the host -/

/-- A handed-over outcome answers next exactly when the instruction completed, or when the host takes the
exception it raised (R314, D10). -/
theorem State.handOver_eq_next {s t : State} {o : Out} :
    s.handOver o = .next t ↔
      o = .next t ∨
      (o = .fault .undefined ∧ ∃ e, s.env.undefinedEntry = some e ∧ t = s.takeUndefined e) ∨
      (∃ ec e, o = .fault (.trapToEL3 ec) ∧ s.env.trapEntry = some e ∧ t = s.takeTrapToEL3 ec e) := by
  unfold State.handOver
  split
  · cases h : s.env.undefinedEntry <;> simp [eq_comm]
  · cases h : s.env.trapEntry <;> simp [eq_comm]
  · rename_i h1 h2
    constructor
    · exact .inl
    · rintro (h | ⟨h, -⟩ | ⟨ec, e, h, -⟩)
      · exact h
      · exact (h1 h).elim
      · exact (h2 ec h).elim

/-! ## The instructions -/

/-- An accessor is ready exactly when neither check fails (R22, R140). -/
theorem State.ready_iff (s : State) : s.Ready ↔ s.accessorDefined = true ∧ s.pc ≠ pcTop := by
  simp [State.Ready, State.accessorDefined, State.atEL3, and_assoc]

/-- `MRS` answers next exactly when it may run, and then this is its whole effect (R140). -/
theorem exec_mrs_eq_next {n : BitVec 5} {s t : State} :
    exec (.mrs n) s = .next t ↔ s.Ready ∧ t = (s.writeX n s.readMDCR).complete := by
  rw [State.ready_iff]
  show execMrs n s = _ ↔ _
  unfold execMrs raiseUndefined
  by_cases h : s.pc = pcTop
  · simp [h]
  · cases h' : s.accessorDefined <;> simp [h, eq_comm]

/-- `MSR` answers next exactly when it may run and the register is not locked (R141, R304). -/
theorem exec_msr_eq_next {n : BitVec 5} {s t : State} :
    exec (.msr n) s = .next t ↔
      s.Ready ∧ s.writeLocked = false ∧ t = (s.writeMDCR (s.readX n)).complete := by
  rw [State.ready_iff]
  show execMsr n s = _ ↔ _
  unfold execMsr raiseUndefined raiseTrapToEL3
  by_cases h : s.pc = pcTop
  · simp [h]
  · cases h' : s.accessorDefined <;> cases h'' : s.writeLocked <;> simp [h, eq_comm]

/-- Every fault of an accessor (R125, R304): UNDEFINED, or the lock's trap on `MSR`. -/
theorem exec_eq_fault {i : Instr} {s : State} {r : Fault} :
    exec i s = .fault r ↔ s.pc ≠ pcTop ∧
      ((s.accessorDefined = false ∧ r = .undefined) ∨
       (s.accessorDefined = true ∧ s.writeLocked = true ∧ r = .trapToEL3 0x18 ∧ ∃ n, i = .msr n)) := by
  cases i with
  | mrs n =>
    show execMrs n s = _ ↔ _
    unfold execMrs raiseUndefined
    by_cases h : s.pc = pcTop
    · simp [h]
    · cases h' : s.accessorDefined <;> simp [h, eq_comm (b := r)]
  | msr n =>
    show execMsr n s = _ ↔ _
    unfold execMsr raiseUndefined raiseTrapToEL3
    by_cases h : s.pc = pcTop
    · simp [h]
    · cases h' : s.accessorDefined <;> cases h'' : s.writeLocked <;> simp [h, eq_comm (b := r)]

/-- Every refusal of an accessor (R22). -/
theorem exec_eq_refused {i : Instr} {s : State} {r : Refusal} :
    exec i s = .refused r ↔ s.pc = pcTop ∧ r = .pcWrap := by
  cases i with
  | mrs n =>
    show execMrs n s = _ ↔ _
    unfold execMrs raiseUndefined
    by_cases h : s.pc = pcTop
    · simp [h, eq_comm (b := r)]
    · cases h' : s.accessorDefined <;> simp [h]
  | msr n =>
    show execMsr n s = _ ↔ _
    unfold execMsr raiseUndefined raiseTrapToEL3
    by_cases h : s.pc = pcTop
    · simp [h, eq_comm (b := r)]
    · cases h' : s.accessorDefined <;> cases h'' : s.writeLocked <;> simp [h]

/-! ## Host events -/

/-- What a system register access does (R305, R309): nothing but an announcement, or the host's entry. -/
theorem accessEvent_eq_next {q : AccessReq} {h e : Bool} {s t : State} :
    accessEvent q h e s = .next t →
      (∃ a, t = s.announce a) ∨ ∃ ec entry, s.env.trapEntry = some entry ∧ t = s.draw.takeTrapToEL3 ec entry := by
  unfold accessEvent
  split
  · intro h; cases h; exact .inl ⟨_, rfl⟩
  · intro h; cases h; exact .inl ⟨_, rfl⟩
  · intro h
    rcases State.handOver_eq_next.1 h with h | ⟨h, -⟩ | ⟨ec, en, h1, h2, h3⟩
    · cases h
    · cases h
    · exact .inr ⟨ec, en, h2, h3⟩

/-- No host event changes the parameters, the host's memory or the events behind it. -/
theorem hostEvent_frame {ev : HostEvent} {s t : State} (h : hostEvent ev s = .next t) :
    t.cfg = s.cfg ∧ t.mem = s.mem ∧ t.inbox = s.inbox := by
  cases ev <;> simp only [hostEvent, Host.Outcome.next.injEq] at h
  case access =>
    rcases accessEvent_eq_next h with ⟨a, rfl⟩ | ⟨ec, en, -, rfl⟩ <;> exact ⟨rfl, rfl, rfl⟩
  case inputs => subst h; simp
  all_goals subst h; exact ⟨rfl, rfl, rfl⟩

/-- What a host event makes of MDCR_EL3 and its shadow: a reset sets both, a context synchronization event
loads the shadow, every other event leaves both (R20, R108, R342). -/
theorem hostEvent_mdcr {ev : HostEvent} {s t : State} (h : hostEvent ev s = .next t) :
    (∃ r, (ev = .coldReset r ∧ t = s.coldReset r) ∨ (ev = .warmReset r ∧ t = s.warmReset r)) ∨
    (t.mdcr = s.mdcr ∧ (t.mdcrEff = s.mdcrEff ∨ t.mdcrEff = s.mdcr)) := by
  cases ev <;> simp only [hostEvent, Host.Outcome.next.injEq] at h
  case coldReset r => exact .inl ⟨r, .inl ⟨rfl, h.symm⟩⟩
  case warmReset r => exact .inl ⟨r, .inr ⟨rfl, h.symm⟩⟩
  case access =>
    rcases accessEvent_eq_next h with ⟨a, rfl⟩ | ⟨ec, en, -, rfl⟩
    · exact .inr ⟨rfl, .inl rfl⟩
    · exact .inr ⟨rfl, .inr rfl⟩
  case inputs => subst h; exact .inr ⟨by simp, State.setInputs_mdcrEff s _⟩
  all_goals
    subst h
    first
      | exact .inr ⟨rfl, .inl rfl⟩
      | exact .inr ⟨rfl, .inr rfl⟩

/-! ## The step -/

/-- The fetch finds an instruction only where it decodes one (R123; log entry 7). -/
theorem fetch_eq_instr {s : State} {i : Instr} :
    fetch s = .instr i ↔ s.pc.toNat % 4 = 0 ∧
      ∃ bs rest, Memory.readBytes s.mem s.pc 4 = some bs ∧ decode bs = .ok (i, rest) := by
  unfold fetch
  split
  · rename_i h; simp [h]
  · rename_i h
    cases hb : Memory.readBytes s.mem s.pc 4 with
    | none => simp
    | some bs =>
      cases hd : decode bs with
      | error e => simp [hd]
      | ok p =>
        obtain ⟨j, r⟩ := p
        simp only [hd, Fetched.instr.injEq]
        constructor
        · rintro rfl; exact ⟨by omega, bs, r, rfl, hd⟩
        · rintro ⟨-, bs', r', h1, h2⟩
          cases h1; rw [hd] at h2; cases h2; rfl

/-- A step that answers next took the oldest host event, or ran the fetched instruction. -/
theorem step_eq_next {s t : State} (h : step s = .next t) :
    (∃ ev rest, s.inbox = ev :: rest ∧ hostEvent ev { s with inbox := rest } = .next t) ∨
    (s.inbox = [] ∧ ∃ i, fetch s = .instr i ∧ s.handOver (exec i s) = .next t) := by
  unfold step at h
  split at h
  · exact .inl ⟨_, _, by assumption, h⟩
  · refine .inr ⟨by assumption, ?_⟩
    unfold instrStep at h
    split at h
    · exact ⟨_, by assumption, h⟩
    · cases h
    · cases h

/-- What an instruction step that answers next leaves behind: the accessor's effect, or the host's entry. -/
theorem handOver_exec_eq_next {i : Instr} {s t : State} (h : s.handOver (exec i s) = .next t) :
    (∃ n, i = .mrs n ∧ s.Ready ∧ t = (s.writeX n s.readMDCR).complete) ∨
    (∃ n, i = .msr n ∧ s.Ready ∧ s.writeLocked = false ∧ t = (s.writeMDCR (s.readX n)).complete) ∨
    (∃ e, s.env.undefinedEntry = some e ∧ t = s.takeUndefined e) ∨
    (∃ ec e, s.env.trapEntry = some e ∧ t = s.takeTrapToEL3 ec e) := by
  rcases State.handOver_eq_next.1 h with h | ⟨-, e, h1, h2⟩ | ⟨ec, e, -, h1, h2⟩
  · cases i with
    | mrs n => exact .inl ⟨n, rfl, exec_mrs_eq_next.1 h⟩
    | msr n => exact .inr (.inl ⟨n, rfl, exec_msr_eq_next.1 h⟩)
  · exact .inr (.inr (.inl ⟨e, h1, h2⟩))
  · exact .inr (.inr (.inr ⟨ec, e, h1, h2⟩))

end Sys2Proof.Machine
end

