-- ==== Sys2Proof/Laws/PerInstr.lean ====
section
/-! SUPPORT. Statements made per instruction: the fixed bits of each encoding, its operand field, and its
decoding. -/

namespace Sys2Proof.Laws

-- one proof at a time: proofs that wait for the kernel each hold a thread
set_option Elab.async false

/-- The word of a well-formed instruction has the class and register bits that R122 fixes, its direction bit
L tells a read from a write, its low five bits are `Rt`, and it decodes to the instruction (R123). -/
def FixedBits.Statement (i : Instr) : Prop :=
  i.wellFormed = true ∧
  encode i &&& 0xFFDFFFE0 = 0xD51E1320 ∧
  (encode i).getLsbD 21 = (match i with
    | .mrs _ => true
    | .msr _ => false) ∧
  rtOf (encode i) = (match i with
    | .mrs t => t
    | .msr t => t) ∧
  decodeWord (encode i) = .ok i

theorem FixedBits.mrs (t : BitVec 5) : FixedBits.Statement (.mrs t) := by
  unfold FixedBits.Statement
  revert t
  decide

theorem FixedBits.msr (t : BitVec 5) : FixedBits.Statement (.msr t) := by
  unfold FixedBits.Statement
  revert t
  decide

end Sys2Proof.Laws
end

