-- ==== Sys2Proof/Laws/View.lean ====
section
/-! SUPPORT. What an indirect reader sees of a field: one lemma per reading, and the readings of a register
that exists and of one that does not. -/

namespace Sys2Proof.Machine

/-- Where the register exists a unit sees the implemented fields of the value in force (R26, R29). -/
theorem View.value_of_exists {w : View} (h : registerExists w.cfg = true) (f : Field) :
    w.value f = if impl w.cfg f then some (fieldOf f w.bits) else none := by
  simp [View.value, h]

/-- Where it does not, the value in force plays no part (R78, R127). -/
theorem View.value_of_absent {w : View} (h : registerExists w.cfg = false) (f : Field) :
    w.value f = if w.cfg.haveEL3 then none else effectiveNoEL3 w.cfg w.env.scrNS f := by
  simp [View.value, h]

/-- A field that acts is one of the configuration's. -/
theorem View.impl_of_value {w : View} {f : Field} {v : Word} (h : w.value f = some v) : impl w.cfg f = true := by
  unfold View.value effectiveNoEL3 at h
  grind

theorem View.has_iff {w : View} {f : Field} : w.has f = true ↔ ∃ v, w.value f = some v := by
  simp [View.has, Option.isSome_iff_exists]

/-- A field holds `n` exactly when it acts with value `n`. -/
theorem View.holds_iff {w : View} {f : Field} {n : Word} : w.holds f n = true ↔ w.value f = some n := by
  unfold View.holds View.has View.fld
  cases w.value f <;> simp

@[simp] theorem View.isSet_iff {w : View} {f : Field} : w.isSet f = true ↔ w.value f = some 1 := View.holds_iff
@[simp] theorem View.isClear_iff {w : View} {f : Field} : w.isClear f = true ↔ w.value f = some 0 := View.holds_iff

theorem View.has_of_value {w : View} {f : Field} {v : Word} (h : w.value f = some v) : w.has f = true :=
  View.has_iff.2 ⟨v, h⟩

theorem View.fld_of_value {w : View} {f : Field} {v : Word} (h : w.value f = some v) : w.fld f = v := by
  simp [View.fld, h]

theorem View.has_of_none {w : View} {f : Field} (h : w.value f = none) : w.has f = false := by
  simp [View.has, h]

theorem View.fld_of_none {w : View} {f : Field} (h : w.value f = none) : w.fld f = 0 := by
  simp [View.fld, h]

/-- A field that is not implemented does not act. -/
theorem View.value_of_not_impl {w : View} {f : Field} (h : impl w.cfg f = false) : w.value f = none := by
  cases hv : w.value f with
  | none => rfl
  | some v => rw [View.impl_of_value hv] at h; cases h

/-- The E bit of an owner pair that has a value is that value. -/
theorem View.ownerBit_of_value {w : View} {f : Field} {v : Word} (h : w.value f = some v) (b : Bool) :
    w.ownerBit f b = v := by
  simp [View.ownerBit, h]

/-- One that is not implemented acts as 0 (R204, R244). -/
theorem View.ownerBit_of_not_impl {w : View} {f : Field} (h : impl w.cfg f = false) (b : Bool) :
    w.ownerBit f b = 0 := by
  simp [View.ownerBit, View.value_of_not_impl h, h]

/-- An E bit without a value is 0 or 1. -/
theorem View.ownerBit_of_none {w : View} {f : Field} (h : w.value f = none) (b : Bool) :
    w.ownerBit f b = 0 ∨ w.ownerBit f b = 1 := by
  simp only [View.ownerBit, h]
  split <;> simp

/-- Of a register that exists a unit sees the stored pair as it is (R203, R243). -/
theorem View.tbReserved_of_exists {w : View} (h : registerExists w.cfg = true) :
    w.tbReserved = Machine.tbReserved w.cfg w.bits := by
  unfold View.tbReserved Machine.tbReserved View.has View.fld View.nstbe View.ownerBit
  rw [View.value_of_exists h, View.value_of_exists h]
  cases h1 : (variant w.cfg .NSTB == 1)
  · rfl
  · have h2 : impl w.cfg .NSTB = true ∧ impl w.cfg .NSTBE = true := by
      simp [variant, impl] at h1 ⊢; grind
    simp [h2.1, h2.2]

theorem View.pbReserved_of_exists {w : View} (h : registerExists w.cfg = true) :
    w.pbReserved = Machine.pbReserved w.cfg w.bits := by
  unfold View.pbReserved Machine.pbReserved View.has View.fld View.nspbe View.ownerBit
  rw [View.value_of_exists h, View.value_of_exists h]
  cases h1 : (variant w.cfg .NSPB == 1)
  · rfl
  · have h2 : impl w.cfg .NSPB = true ∧ impl w.cfg .NSPBE = true := by
      simp [variant, impl] at h1 ⊢; grind
    simp [h2.1, h2.2]

/-- A reserved pair hands its unit to the parameter (R207). -/
theorem traceBufferUse_of_reserved {w : View} (h : w.tbReserved = true) :
    traceBufferUse w = some (reservedUse w.env.tbuSelfHosted w.cfg.CU_NSTB_RESERVED) := by
  have hh : w.has .NSTB = true := by simp [View.tbReserved] at h; exact h.1.2
  simp [traceBufferUse, hh, h]

theorem profilingBufferUse_of_reserved {w : View} (h : w.pbReserved = true) :
    profilingBufferUse w = some (reservedUse w.env.profilingEnabled w.cfg.CU_NSPB_RESERVED) := by
  have hh : w.has .NSPB = true := by simp [View.pbReserved] at h; exact h.1.2
  simp [profilingBufferUse, hh, h]

/-- The update of TRBSR_ELx, register by register. -/
theorem Env.updTrbsr_eq (env : Env) (x : EL) (f : TrbStatus → TrbStatus) :
    env.updTrbsr x f = { env with
      trbsr1 := if x = .EL1 then f env.trbsr1 else env.trbsr1
      trbsr2 := if x = .EL2 then f env.trbsr2 else env.trbsr2
      trbsr3 := if x = .EL3 then f env.trbsr3 else env.trbsr3 } := by
  cases x <;> rfl

/-- The update of PMBSR_ELx, register by register. -/
theorem Env.updPmbsr_eq (env : Env) (x : EL) (f : PmbStatus → PmbStatus) :
    env.updPmbsr x f = { env with
      pmbsr1 := if x = .EL1 then f env.pmbsr1 else env.pmbsr1
      pmbsr2 := if x = .EL2 then f env.pmbsr2 else env.pmbsr2
      pmbsr3 := if x = .EL3 then f env.pmbsr3 else env.pmbsr3 } := by
  cases x <;> rfl

/-- A field that acts as 0 is a field of the register: no Effective value of R78 is 0. -/
theorem View.exists_of_value_zero {w : View} {f : Field} (h : w.value f = some 0) : registerExists w.cfg = true := by
  cases hx : registerExists w.cfg
  · rw [View.value_of_absent hx] at h
    unfold effectiveNoEL3 at h
    cases f <;> simp at h <;> grind
  · rfl

/-- What a unit sees of a field fits its width (R27, R78). -/
theorem View.value_toNat_lt {w : View} {f : Field} {v : Word} (h : w.value f = some v) :
    v.toNat < 2 ^ fieldWidth f := by
  unfold View.value at h
  split at h
  · split at h
    · cases h; exact fieldOf_toNat_lt f w.bits
    · cases h
  · split at h
    · cases h
    · unfold effectiveNoEL3 at h
      cases f <;> simp at h <;> grind [fieldWidth]

/-- A one-bit field does not act, or is 0 or 1. -/
theorem View.value_cases_one {w : View} {f : Field} (hw : fieldWidth f = 1) :
    w.value f = none ∨ w.value f = some 0 ∨ w.value f = some 1 := by
  cases h : w.value f with
  | none => simp
  | some v =>
    have := View.value_toNat_lt h
    rw [hw] at this
    have : v = 0 ∨ v = 1 := by bv_omega
    rcases this with rfl | rfl <;> simp

/-- A two-bit field does not act, or has one of four values. -/
theorem View.value_cases_two {w : View} {f : Field} (hw : fieldWidth f = 2) :
    w.value f = none ∨ w.value f = some 0 ∨ w.value f = some 1 ∨ w.value f = some 2 ∨ w.value f = some 3 := by
  cases h : w.value f with
  | none => simp
  | some v =>
    have := View.value_toNat_lt h
    rw [hw] at this
    have : v = 0 ∨ v = 1 ∨ v = 2 ∨ v = 3 := by bv_omega
    rcases this with rfl | rfl | rfl | rfl <;> simp

end Sys2Proof.Machine
end

