-- ==== Sys2Proof/Laws/Traps.lean ====
section
/-! SUPPORT. The small operations of the trap controls: register lists as membership, a trap as a condition. -/

namespace Sys2Proof.Machine

/-- A register is in a list when its name is, whatever its `<n>`. -/
@[simp] theorem isIn_iff (r : SysReg) (l : List RegName) : r.isIn l = true ↔ r.name ∈ l := by simp [SysReg.isIn]

/-- A conditional list has its names when the condition holds. -/
@[simp] theorem mem_regsIf (n : RegName) (b : Bool) (l : List RegName) : n ∈ regsIf b l ↔ b = true ∧ n ∈ l := by
  cases b <;> simp [regsIf]

/-- A trap under a condition, by any proposition that says when it holds. -/
theorem trapWhen_eq {b : Bool} {p : Prop} [Decidable p] (ec : EC) (h : b = true ↔ p) :
    trapWhen b ec = if p then some ec else none := by
  unfold trapWhen
  by_cases hp : p
  · simp [hp, h.2 hp]
  · have : b = false := by cases b <;> simp_all
    simp [hp, this]

@[simp] theorem belowEL3_iff (a : Access) : belowEL3 a = true ↔ a.el ≠ .EL3 := by
  unfold belowEL3; cases a.el <;> decide

@[simp] theorem atEL1or2_iff (a : Access) : atEL1or2 a = true ↔ a.el = .EL1 ∨ a.el = .EL2 := by
  simp [atEL1or2]

end Sys2Proof.Machine
end

