-- ==== Sys2Proof/Tests/Slice0.lean ====
section
/-! SUPPORT. The author's own checks: ill-formed terms are refused, words written out from the encoding
decode, vectors of 95_test_vectors.md on one step, and for each statement with hypotheses a witness that
meets them. -/

namespace Sys2Proof.Tests

open Machine

-- one proof at a time: proofs that wait for the kernel each hold a thread
set_option Elab.async false

/-! ## Helpers -/

/-- The next state of an outcome, if it has one. -/
def next? : Out → Option State
  | .next s => some s
  | .fault _ => none
  | .refused _ => none

/-- The fault of an outcome, if it has one. -/
def fault? : Out → Option Fault
  | .next _ => none
  | .fault f => some f
  | .refused _ => none

/-- The refusal of an outcome, if it has one. -/
def refused? : Out → Option Refusal
  | .next _ => none
  | .fault _ => none
  | .refused r => some r

/-- CFG_ALL with the readback and synchronization of 95_test_vectors.md. -/
def cAll : Config := { cfgAll with RESERVED_READBACK := .AsWritten, SYNC_MODEL := .Immediate }

/-- CFG_MIN likewise. -/
def cMin : Config := { cfgMin with RESERVED_READBACK := .AsWritten, SYNC_MODEL := .Immediate }

/-- A state of 95_test_vectors.md 2.5: `x[0] = 0x1111`, `x[1]` all ones, and the given rest. -/
def st (c : Config) (m : Word) (el : EL) (pc : Word) : State :=
  { State.reset with
    cfg := c, mdcr := ⟨m, 0, 0⟩, mdcrEff := ⟨m, 0, 0⟩, el := el, pc := pc,
    x := (State.reset.x.set 0 0x1111).set 1 0xFFFFFFFFFFFFFFFF }

/-- The state with the FGWTE3 lock set. -/
def lock (s : State) : State := { s with env := { s.env with fgwte3 := true } }

/-- The state with a host event pending. -/
def pend (s : State) (ev : HostEvent) : State := { s with inbox := [ev] }

/-- The host's entry used below. -/
def entry : HostEntry := { target := .EL3, ss := .Root, pc := 0x400 }

/-- The state with host entries for both exceptions. -/
def hosted (s : State) : State :=
  { s with env := { s.env with trapEntry := some entry, undefinedEntry := some entry } }

/-- A view on the bits `m`. -/
def vw (c : Config) (m : Word) (el : EL) (env : Env) : View :=
  { cfg := c, env := env, el := el, bits := m, choice := 0, k := 0 }

/-- An access record. -/
def acc (st : ExecState) (i : AccessInstr) (r : RegName) (coproc : BitVec 4) (el : EL) (ss : SecState)
    (halted : Bool) : Access :=
  { state := st, instr := i, reg := { name := r }, coproc := coproc, el := el, ss := ss, halted := halted }

def vGood : Word := 0x00AFFD935381B080
def vTrap : Word := 0x00AFFD935B81B6C0

/-! ## Ill-formed terms are refused -/

/-- RES0 storage that meets an implemented field (EDAD, bit 20) is refused (R29). -/
theorem test_wf_res0_storage :
    Config.res0Disjoint { cAll with RES0_STORAGE_MASK := 0x00100000 } = false ∧
    Config.wellFormed { cAll with RES0_STORAGE_MASK := 0x00100000 } = false ∧
    Config.wellFormed { cAll with RES0_STORAGE_MASK := 0x100 } = true := by decide +kernel

/-- A choice of an owner that is not implemented is refused (R207, R246); Root is implemented with FEAT_RME. -/
theorem test_wf_owner :
    Config.wellFormed { cMin with CU_NSTB_RESERVED := .PickOwner .Realm } = false ∧
    Config.wellFormed { cMin with CU_NSPB_RESERVED := .PickOwner .Root } = false ∧
    Config.wellFormed { cAll with CU_NSPB_RESERVED := .PickOwner .Root } = true ∧
    Config.wellFormed { cAll with haveSecureState := false, CU_NSTB_RESERVED := .PickOwner .Secure } = false ∧
    Config.wellFormed { cAll with CU_NSPB_RESERVED := .PickOwner .Realm } = true := by decide +kernel

/-- A configuration in which the register does not exist is refused (R10, D26). -/
theorem test_wf_register :
    Config.wellFormed { cAll with haveEL3 := false } = false ∧
    Config.wellFormed { cMin with FEAT_AA64 := false } = false ∧
    Config.wellFormed cfgAll = true ∧ Config.wellFormed cfgMin = true := by decide +kernel

/-- Ill-formed access records are refused: an instruction of the other Execution state, another coproc, Root
below EL3, EL2 without EL2 (R17). -/
theorem test_wf_access :
    Access.wellFormed cAll (acc .AArch64 .MRC .DBGDIDR 0b1110 .EL1 .Secure false) = false ∧
    Access.wellFormed cAll (acc .AArch32 .MRS .DBGDIDR 0b1110 .EL1 .Secure false) = false ∧
    Access.wellFormed cAll (acc .AArch32 .MRC .DBGDIDR 0b1101 .EL1 .Secure false) = false ∧
    Access.wellFormed cAll (acc .AArch64 .MRS .MDSCR_EL1 0 .EL1 .Root false) = false ∧
    Access.wellFormed cMin (acc .AArch64 .MRS .MDSCR_EL1 0 .EL2 .Secure false) = false ∧
    Access.wellFormed cAll (acc .AArch32 .MRC .DBGDIDR 0b1110 .EL1 .Secure false) = true := by decide

/-- No instruction is ill-formed (R125): the hypothesis of DecodeAndEncodeAgree. -/
theorem test_wf_instr : ∀ t : BitVec 5, (Instr.mrs t).wellFormed = true ∧ (Instr.msr t).wellFormed = true := by
  decide

/-! ## Decoding: words written bit by bit from R122 (class, L, op0, op1, CRn, CRm, op2, Rt) -/

theorem test_decode_mrs_x15 :
    decodeWord 0b1101010100_1_11_110_0001_0011_001_01111#32 = .ok (.mrs 15) := by decide
theorem test_decode_mrs_xzr :
    decodeWord 0b1101010100_1_11_110_0001_0011_001_11111#32 = .ok (.mrs 31) := by decide
theorem test_decode_msr_x1 :
    decodeWord 0b1101010100_0_11_110_0001_0011_001_00001#32 = .ok (.msr 1) := by decide
theorem test_decode_msr_x30 :
    decodeWord 0b1101010100_0_11_110_0001_0011_001_11110#32 = .ok (.msr 30) := by decide

/-- Bytes in ascending address order (95_test_vectors.md 2.1). -/
theorem test_decode_bytes :
    decode [0x2F, 0x13, 0x3E, 0xD5] = .ok (.mrs 15, []) ∧
    decode [0x3E, 0x13, 0x1E, 0xD5, 0x20] = .ok (.msr 30, [0x20]) ∧
    decode [0x20, 0x13, 0x3E] = .error .truncated := by decide

/-- The neighbours that are outside the spec (95_test_vectors.md 2.1). -/
theorem test_decode_refused :
    [0xD53E1300#32, 0xD53E1340, 0xD53E1220, 0xD53E2320, 0xD53C1320, 0xD5361320, 0xD50E1320, 0,
      0xFFFFFFFF].map decodeWord = List.replicate 9 (.error .outsideSpec) := by decide

/-- Spelling (R129). -/
theorem test_asm :
    asmOf (.mrs 31) = "MRS XZR, MDCR_EL3" ∧ asmOf (.msr 30) = "MSR MDCR_EL3, X30" ∧
    genericName 3 6 1 3 1 = "S3_6_C1_C3_1" := by decide

/-! ## One step of each accessor (95_test_vectors.md 2.3, 2.5, P1) -/

theorem test_mrs_reads :
    ((next? (exec (.mrs 0) (st cMin 0x200 .EL3 0x1000))).map fun t => (t.readX 0, t.mdcr.bits, t.pc)) =
      some (0x200, 0x200, 0x1004) := by decide +kernel

theorem test_mrs_undefined_and_refused :
    fault? (exec (.mrs 0) (st cMin 0x200 .EL2 0x1000)) = some .undefined ∧
    refused? (exec (.mrs 0) (st cMin 0x200 .EL3 0xFFFFFFFFFFFFFFFC)) = some .pcWrap := by decide +kernel

theorem test_msr_writes :
    ((next? (exec (.msr 1) (st cMin 0x200 .EL3 0x1000))).map fun t => (t.mdcr.bits, t.readX 0, t.pc)) =
      some (0x110600, 0x1111, 0x1004) ∧
    ((next? (exec (.msr 1) (st { cAll with RES0_STORAGE_MASK := 0x100 } 0 .EL3 0x1000))).map
      fun t => t.mdcr.bits) = some 0x00FFFFFFDFFFFFDD := by decide +kernel

theorem test_msr_locked :
    fault? (exec (.msr 1) (lock (st { cMin with FEAT_FGWTE3 := true } 0x200 .EL3 0x1000))) =
      some (.trapToEL3 0x18) ∧
    fault? (exec (.msr 1) (lock (st { cMin with FEAT_FGWTE3 := true } 0x200 .EL2 0x1000))) =
      some .undefined := by decide +kernel

/-- Step fetches and runs what `withFetchWord` lays at the pc (95_test_vectors.md P1). -/
theorem test_step_from_reset :
    ((next? (step (State.reset.withFetchWord 32 0xD53E1320))).map fun t => (t.readX 0, t.pc)) =
      some (0x10000000, 4) ∧
    ((next? (step (State.reset.withFetchWord 32 0xD51E133F))).map fun t => (t.mdcr.unknown, t.pc)) =
      some (0, 4) := by decide +kernel

/-! ## The register's layout and controls (95_test_vectors.md 2.2, 2.6 to 2.11) -/

theorem test_impl_masks :
    implMask cMin = 0x110600 ∧ implMask { cMin with haveSecureState := false } = 0x100600 ∧
    implMask { cMin with FEAT_RME := true } = 0x110610 ∧
    implMask { cMin with FEAT_SPE := true, FEAT_TRBE := true, FEAT_TRF := true } = 0x031D3600 ∧
    implMask { cAll with IMPDEF_EBWE_IS_RES0 := true } = 0x00FFF7FFDFFFFEDD := by decide +kernel

/-- Reset values of 2.6, with `u = 0x0123456789ABCDEF` and all ones. -/
theorem test_reset_bits :
    coldResetBits cAll 0x0123456789ABCDEF 0 0 = 0x000004031909CCC0 ∧
    warmResetBits cAll 0xFFFFFFFFFFFFFFFF 0 vGood = 0x008494935F09FEC0 ∧
    warmResetBits cAll 0 0 0x0000004000000000 = 0x0000004000000000 := by decide +kernel

/-- Rows T6, T7, T12, T25, T33, T50 of 2.7. -/
theorem test_traps :
    trapCandidates (vw cAll vTrap .EL1 Env.reset) false
      (acc .AArch64 .MRS .OSDTRRX_EL1 0 .EL1 .NonSecure false) = [0x18, 0x18] ∧
    trapCandidates (vw cAll vTrap .EL0 Env.reset) false
      (acc .AArch64 .MRS .DBGDTRRX_EL0 0 .EL0 .NonSecure true) = [] ∧
    trapCandidates (vw cAll vTrap .EL0 Env.reset) false
      (acc .AArch32 .LDC .DBGDTRTXint 0b1110 .EL0 .NonSecure false) = [0x06, 0x06] ∧
    trapCandidates (vw cAll vTrap .EL0 Env.reset) false
      (acc .AArch32 .MRRC .PMCCNTR 0b1111 .EL0 .NonSecure false) = [0x04] ∧
    trapCandidates (vw cAll vGood .EL1 Env.reset) false
      (acc .AArch64 .MRS .PMBMAR_EL1 0 .EL1 .Secure false) = [0x18] ∧
    trapCandidates (vw cAll 0 .EL1 Env.reset) false
      (acc .AArch64 .MRS .PMSDSFR_EL1 0 .EL1 .Secure false) = [0x18, 0x18] := by decide +kernel

/-- Rows of 2.9: (EDADE, EDAD) = (0, 1), and EDAD variant 4. -/
theorem test_external :
    (externalProhibited (vw cAll (vGood ||| 0x100000) .EL1 Env.reset) ⟨⟨.DBGBCRn_EL1, 0⟩, .Realm⟩,
     externalProhibited (vw cAll (vGood ||| 0x100000) .EL1 Env.reset) ⟨⟨.DBGBCRn_EL1, 0⟩, .Secure⟩,
     externalProhibited (vw { cMin with IMPDEF_EDAD_AFFECTS_OSLAR := false } 0x100000 .EL1 Env.reset)
       ⟨⟨.OSLAR_EL1, 0⟩, .NonSecure⟩,
     externalProhibited (vw cMin 0x100000 .EL1 Env.reset) ⟨⟨.DBGWVRn_EL1, 0⟩, .Secure⟩) =
      (true, false, false, true) := by decide +kernel

/-! ## Witnesses: for each statement with hypotheses, terms that meet them, clause by clause -/

/-- An `MSR MDCR_EL3, X1` at 0x1000 in memory, at Exception level `el`. -/
def coded (el : EL) (pc : Word) : State :=
  (st { cMin with FEAT_FGWTE3 := true } 0x200 el pc).placeWord 0xD51E1321

/-- The bytes at the pc decode, and each of the four outcomes occurs. -/
theorem witness_StepRunsTheDecodedInstruction :
    [0x1000#64, 0xFFFFFFFFFFFFFFFC].map (fun pc => (pc.toNat % 4, Memory.readBytes (coded .EL3 pc).mem pc 4)) =
      List.replicate 2 (0, some [0x21, 0x13, 0x1E, 0xD5]) ∧
    decode [0x21, 0x13, 0x1E, 0xD5] = .ok (.msr 1, []) ∧ (Instr.msr 1).wellFormed = true ∧
    (coded .EL3 0x1000).inbox = [] ∧
    (next? (exec (.msr 1) (coded .EL3 0x1000))).isSome = true ∧
    refused? (exec (.msr 1) (coded .EL3 0xFFFFFFFFFFFFFFFC)) = some .pcWrap ∧
    fault? (exec (.msr 1) (coded .EL1 0x1000)) = some .undefined ∧
    fault? (exec (.msr 1) (lock (coded .EL3 0x1000))) = some (.trapToEL3 0x18) := by decide +kernel

theorem witness_PlacedWordRunsNext :
    (st cMin 0 .EL3 0).pc.toNat % 4 = 0 ∧ (st cMin 0 .EL3 0xFFFFFFFFFFFFFFFC).pc.toNat % 4 = 0 ∧
    (∀ j < 4, (0x1004 : Nat) ≠ (0x1000#64 + BitVec.ofNat 64 j).toNat) := by decide

/-- StepWithoutAnAccessor: a pending event; no event, and each of the three stops. -/
theorem witness_StepWithoutAnAccessor :
    (pend (st cMin 0 .EL3 0) .contextSync).inbox = .contextSync :: [] ∧
    (st cMin 0 .EL3 0x1002).inbox = [] ∧ (st cMin 0 .EL3 0x1002).pc.toNat % 4 ≠ 0 ∧
    Memory.readBytes (st cMin 0 .EL3 0x1000).mem 0x1000 4 = none ∧
    Memory.readBytes ((st cMin 0 .EL3 0x1000).placeWord 0xD53E1340).mem 0x1000 4 =
      some [0x40, 0x13, 0x3E, 0xD5] ∧
    decode [0x40, 0x13, 0x3E, 0xD5] = .error .outsideSpec := by decide +kernel

/-- MrsReadsTheRegister, MsrWritesTheRegister: ready, not locked, with UNKNOWN_STABLE; both ways to an exact
store. -/
theorem witness_MrsAndMsr :
    (st cAll vGood .EL3 0).Ready ∧ (st cAll vGood .EL3 0).cfg.UNKNOWN_STABLE = true ∧
    (cAll.FEAT_FGWTE3 && (st cAll vGood .EL3 0).env.fgwte3) = false ∧
    cAll.RESERVED_READBACK = .AsWritten ∧ reservedMask cfgAll vGood = 0 := by
  refine ⟨⟨?_, ?_, ?_⟩, ?_⟩ <;> decide +kernel

/-- MsrWritesTheRegister under `Any`, with a reserved encoding to be written (95_test_vectors.md 2.3). -/
theorem witness_MsrReserved :
    cfgAll.RESERVED_READBACK = .Any ∧ reservedMask cfgAll 0x0123456789ABCDEF = 0x3800 := by decide +kernel

theorem witness_AccessorsUndefinedExactlyBelowEL3 :
    (st cMin 0 .EL0 0).pc ≠ pcTop ∧ fault? (exec (.mrs 0) (st cMin 0 .EL0 0)) = some .undefined ∧
    fault? (exec (.msr 0) (st { cMin with haveEL3 := false } 0 .EL3 0)) = some .undefined := by decide +kernel

theorem witness_WriteLockTrapsMsrOnly :
    let s := hosted (lock (st cAll 0x200 .EL3 0x1000))
    s.pc ≠ pcTop ∧ registerExists s.cfg = true ∧ s.el = .EL3 ∧ s.cfg.FEAT_FGWTE3 = true ∧
    s.env.fgwte3 = true ∧ fault? (exec (.msr 1) s) = some (.trapToEL3 0x18) ∧
    (next? (s.handOver (exec (.msr 1) s))).isSome = true ∧ (st cAll 0 .EL2 0x1000).el ≠ .EL3 := by decide +kernel

theorem witness_AccessorsRefusedOnlyAtTheTop :
    (st cMin 0 .EL3 0xFFFFFFFFFFFFFFFC).pc = 0xFFFFFFFFFFFFFFFC ∧
    refused? (exec (.msr 0) (st cMin 0 .EL3 0xFFFFFFFFFFFFFFFC)) = some .pcWrap := by decide +kernel

theorem witness_AccessorsFallThrough :
    (next? (exec (.msr 31) (st cMin 0 .EL3 0xFFFFFFFFFFFFFFF8))).map (·.pc) = some 0xFFFFFFFFFFFFFFFC := by
  decide +kernel

/-- ReadAfterWriteReturnsTheFields: `MSR` then `MRS` at EL3 of a fully defined value,
under CFG_ALL itself too. -/
theorem witness_ReadAfterWrite :
    let s : State := { st cAll 0 .EL3 0x1000 with x := Vector.replicate 31 vGood }
    ∃ s1 s3, exec (.msr 1) s = .next s1 ∧ exec (.mrs 2) s1 = .next s3 ∧ (2 : BitVec 5) ≠ 31 ∧
      impl s.cfg .TRBEE = true ∧ holdsReserved s.cfg (s.readX 1) .TRBEE = false ∧
      (∃ t u, exec (.msr 1) { s with cfg := cfgAll } = .next t ∧ exec (.mrs 2) t = .next u) ∧
      fullyDefined cfgAll (s.readX 1) = true :=
  ⟨_, _, rfl, rfl, by decide, by decide +kernel, by decide +kernel, ⟨_, _, rfl, rfl⟩, by decide +kernel⟩

/-- ReadAfterWriteReturnsTheFields, fully defined values, at the largest value and in the smallest configuration too. -/
theorem witness_FullyDefined :
    fullyDefined cfgAll vGood = true ∧ fullyDefined cfgAll 0x00FFFFFFDFFFFEDD = true ∧
    fullyDefined cMin 0x00110600 = true := by decide +kernel

/-- LastWriteWins: two writes, each alone possible, of a value that holds a reserved encoding under `Any` and of one
that does not; and a read written back (R143). -/
theorem witness_LastWriteWins :
    let s := st cAll vTrap .EL3 0x1000
    let r := { st cfgAll vTrap .EL3 0x1000 with x := (Vector.replicate 31 0x0123456789ABCDEF).set 2 0 }
    s.cfg.RESERVED_READBACK = .AsWritten ∧ r.cfg.RESERVED_READBACK = .Any ∧
    reservedMask r.cfg (r.readX 1) ≠ 0 ∧ reservedMask r.cfg (r.readX 2) = 0 ∧
    (∃ s1 s2 t, exec (.msr 0) s = .next s1 ∧ exec (.msr 1) s1 = .next s2 ∧ exec (.msr 1) s = .next t) ∧
    (∃ s1 s2 t, exec (.msr 2) r = .next s1 ∧ exec (.msr 1) s1 = .next s2 ∧ exec (.msr 1) r = .next t) ∧
    s.cfg.UNKNOWN_STABLE = true ∧ s.mdcr.withinKept s.cfg ∧ reservedMask s.cfg s.mdcr.bits = 0 ∧
    (∃ s1 s2, exec (.mrs 5) s = .next s1 ∧ exec (.msr 5) s1 = .next s2) := by
  refine ⟨rfl, rfl, ?_, ?_, ⟨_, _, _, rfl, rfl, rfl⟩, ⟨_, _, _, rfl, rfl, rfl⟩, rfl, ⟨?_, ?_, ?_⟩, ?_,
    ⟨_, _, rfl, rfl⟩⟩ <;> decide +kernel

/-- ZeroRegisterForms: both alternatives of its last clause, the second with and without Secure state; and a
configuration where zero does hold a reserved encoding. -/
theorem witness_ZeroRegisterForms :
    (st cAll vGood .EL3 0).Ready ∧ cAll.RESERVED_READBACK = .AsWritten ∧ reservedMask cfgAll 0 = 0 ∧
    reservedMask { cfgMin with haveSecureState := false } 0 = 0 ∧
    reservedMask { cfgAll with haveSecureState := false } 0 = 0x07003800 ∧
    (cAll.FEAT_FGWTE3 && (st cAll vGood .EL3 0).env.fgwte3) = false := by
  refine ⟨⟨?_, ?_, ?_⟩, ?_⟩ <;> decide +kernel

/-- StepKeepsTheInvariant, StepChangesNoParameterAndNoMemory: the invariant holds, and both kinds of step answer
next. -/
theorem witness_StepKeepsTheInvariant :
    State.Inv (coded .EL3 0x1000) ∧ (next? (step (coded .EL3 0x1000))).isSome = true ∧
    (next? (step (pend (coded .EL3 0x1000) .contextSync))).isSome = true := by
  refine ⟨⟨?_, ⟨?_, ?_, ?_⟩, ?_, ?_, ?_⟩, ?_⟩ <;> decide +kernel

/-- OnlyMsrAtEL3AndResetWriteTheRegister: the register does change. -/
theorem witness_OnlyMsrAtEL3AndReset :
    ((next? (step (coded .EL3 0x1000))).map fun t => t.mdcr.bits) = some 0x110600 ∧
    (coded .EL3 0x1000).mdcr.bits = 0x200 ∧ (coded .EL3 0x1000).inbox = [] := by decide +kernel

theorem witness_LowerLevelsLearnNothing :
    (coded .EL1 0x1000).inbox = [] ∧ (coded .EL1 0x1000).el ≠ .EL3 ∧
    ((next? (step (hosted (coded .EL1 0x1000)))).map (·.pc)) = some 0x400 := by decide +kernel

/-- IndirectReadersFollowTheSyncModel: both synchronization models, a loaded shadow, each event, and inputs that do
and do not end Debug state. -/
theorem witness_IndirectReaders :
    (st cAll 0 .EL3 0).cfg.SYNC_MODEL = .Immediate ∧ (st cfgAll 0 .EL3 0).cfg.SYNC_MODEL = .UntilCSE ∧
    (st cfgAll 0 .EL3 0).mdcrEff = (st cfgAll 0 .EL3 0).mdcr ∧ (st cfgAll 0 .EL3 0).cfg.UNKNOWN_STABLE = true ∧
    (∀ ev ∈ [HostEvent.contextSync, .exceptionEntry entry, .exceptionReturn entry, .debugExit, .debugEntry,
        .inputs Env.reset, .query .capture, .traceData .EL3, .hostRegisters (Vector.replicate 31 0) 0 0],
      (next? (hostEvent ev (st cAll 0 .EL3 0))).isSome = true) ∧
    ((next? (hostEvent (.inputs Env.reset)
        { st cfgAll 0 .EL3 0 with mdcr := ⟨1, 0, 0⟩, env := { Env.reset with halted := true } })).map
      fun t => t.mdcrEff.bits) = some 1 ∧
    ((next? (hostEvent (.inputs Env.reset) { st cfgAll 0 .EL3 0 with mdcr := ⟨1, 0, 0⟩ })).map
      fun t => t.mdcrEff.bits) = some 0 := by decide +kernel

theorem witness_TrapEntryGoesToEL3 :
    (hosted (st cAll 0 .EL3 0)).env.trapEntry = some entry ∧
    (hosted (st cAll 0 .EL1 0)).env.undefinedEntry = some entry := by decide +kernel

/-- AccessesFollowTheTrapRule at EL3. -/
theorem witness_NoMatchAtEL3 : (st cAll vTrap .EL3 0).el = .EL3 := by decide +kernel

/-- MatchingControlsAgreeOnTheEC: two controls match (T5), and two match with an AArch32 EC (T13). -/
theorem witness_MatchingControls :
    (∀ r ∈ cAll.tdosaExtraA32, r.name = .OTHER) ∧
    trapCandidates (vw cAll vTrap .EL0 Env.reset) false
      (acc .AArch64 .MRS .MDCCSR_EL0 0 .EL0 .NonSecure false) = [0x18, 0x18] ∧
    trapCandidates (vw cAll vTrap .EL0 Env.reset) false
      (acc .AArch32 .MRC .DBGDSCRint 0b1110 .EL0 .NonSecure false) = [0x05, 0x05] := by decide +kernel

/-- AccessesFollowTheTrapRule: T1 proceeds, T2 traps, T2 under a higher priority exception (T58), without and with a
host entry. -/
theorem witness_AccessesFollowTheTrapRule :
    let q : AccessReq := { state := .AArch64, instr := .MRS, reg := ⟨.MDSCR_EL1, 0⟩ }
    let s := st cAll vTrap .EL1 0
    trapCandidates (st cAll vGood .EL1 0).view false ((st cAll vGood .EL1 0).accessRecord q) = [] ∧
    trapCandidates s.view false (s.accessRecord q) ≠ [] ∧ s.env.trapEntry = none ∧
    (hosted s).env.trapEntry = some entry ∧
    trapCandidates (hosted s).view false ((hosted s).accessRecord q) ≠ [] := by decide +kernel

/-- DccTrapsSpareDebugState, both sides of each equivalence. -/
theorem witness_DccTraps :
    (vw cAll vTrap .EL0 Env.reset).value .TDCC = some 1 ∧ (vw cMin vTrap .EL0 Env.reset).value .TDCC = none ∧
    (vw cAll vGood .EL0 Env.reset).value .TDCC = some 0 ∧
    trapTDCC (vw cAll vTrap .EL0 Env.reset) (acc .AArch64 .MRS .DBGDTRRX_EL0 0 .EL0 .NonSecure false) = some 0x18 ∧
    trapTDCC (vw cAll vTrap .EL0 Env.reset) (acc .AArch32 .MCR .DBGDTRTXint 0b1110 .EL1 .Secure false) = some 0x05 ∧
    trapTDCC (vw cAll vTrap .EL0 Env.reset) (acc .AArch32 .STC .DBGDTRRXint 0b1110 .EL1 .Secure false) = some 0x06 := by
  decide +kernel

/-- TdosaYieldsToEL2, DebugRegisterTrapsByClass, PmuTrapsByClass: TDOSA, TDA and TPM set and clear; the first two
exist wherever the register does; an access in each Execution state below EL3, and one at EL3. -/
theorem witness_TdosaTdaTpm :
    registerExists cMin = true ∧ (vw cMin vTrap .EL0 Env.reset).value .TDOSA = some 1 ∧
    (vw cMin vTrap .EL0 Env.reset).value .TDA = some 1 ∧ (vw cMin 0 .EL0 Env.reset).value .TDA = some 0 ∧
    (vw { cMin with haveEL3 := false } vTrap .EL0 Env.reset).value .TDA = none ∧
    (vw cAll vTrap .EL0 Env.reset).value .TPM = some 1 ∧ (vw cAll 0 .EL0 Env.reset).value .TPM ≠ some 1 ∧
    trapTDOSA (vw cMin vTrap .EL1 Env.reset) false (acc .AArch32 .MCR .DBGOSLAR 0b1110 .EL1 .NonSecure false) =
      some 0x05 ∧
    (acc .AArch32 .STC .DBGDTRRXint 0b1110 .EL0 .NonSecure true).el ≠ .EL3 ∧
    (acc .AArch64 .MRS .MDSCR_EL1 0 .EL3 .Root false).el = .EL3 := by decide +kernel

/-- TraceBufferOwnerTable, ProfilingBufferOwnerTable: (NSTBE, NSTB) at bits 26 and 25:24, (NSPBE, NSPB) at bits 11 and
13:12 (R28): the six defined rows, the two always reserved, variant 2 without the E bit, and no EL3, where with
FEAT_RME the E bits are implemented without a value. -/
theorem witness_OwnerTables :
    [(0 : Word), 0x1000000, 0x2000000, 0x3000000, 0x6000000, 0x7000000, 0x4000000, 0x5000000].map
      (fun v => let w := vw cAll v .EL1 Env.reset
        (w.value .NSTBE, w.value .NSTB, w.tbReserved)) =
      [(some 0, some 0, false), (some 0, some 1, false), (some 0, some 2, false), (some 0, some 3, false),
       (some 1, some 2, false), (some 1, some 3, false), (some 1, some 0, true), (some 1, some 1, true)] ∧
    [(0 : Word), 0x1000, 0x2000, 0x3000, 0x2800, 0x3800, 0x800, 0x1800].map
      (fun v => let w := vw cAll v .EL1 Env.reset
        (w.value .NSPBE, w.value .NSPB, w.pbReserved)) =
      [(some 0, some 0, false), (some 0, some 1, false), (some 0, some 2, false), (some 0, some 3, false),
       (some 1, some 2, false), (some 1, some 3, false), (some 1, some 0, true), (some 1, some 1, true)] ∧
    (let w := vw { cAll with FEAT_RME := false, haveSecureState := false } 0 .EL1 Env.reset
     (w.value .NSTBE, w.value .NSTB, w.tbReserved, w.value .NSPBE, w.value .NSPB, w.pbReserved)) =
      (none, some 0, false, none, some 0, false) ∧
    (let w := vw { cAll with FEAT_RME := false, haveEL3 := false } 0 .EL1 Env.reset
     (w.value .NSTB, w.tbReserved, w.value .NSPB, w.pbReserved)) = (some 1, false, some 1, false) ∧
    (let w := vw { cAll with haveEL3 := false } 0 .EL1 { Env.reset with scrNS := true }
     [w.value .NSTB, w.value .NSTBE, w.value .NSPB, w.value .NSPBE]) = [some 3, none, some 3, none] ∧
    impl cAll .NSTB = true ∧ impl cAll .NSPB = true ∧ Env.reset.traceBufferEnabled = false ∧
    ({ Env.reset with traceBufferEnabled := true }).traceBufferEnabled = true := by decide +kernel

/-- A state whose buffer units are in use, with the behaviour `p` for reserved pairs. -/
def inUse (p : ReservedOwner) (m : Word) : State :=
  { st { cAll with CU_NSTB_RESERVED := p, CU_NSPB_RESERVED := p } m .EL3 0 with
    env := { Env.reset with tbuSelfHosted := true, traceBufferEnabled := true, profilingEnabled := true } }

/-- One whose units drop the data of a reserved pair. -/
def dropping (m : Word) : State := inUse .DropAndEvent m

/-- ReservedOwnerPairsActAsChosen: data dropped with x at each Exception level, S clear and set, and units that do not
drop; a picked owner and a unit as if disabled. -/
theorem witness_ReservedOwnerPairs :
    (dropping 0x4000800).view.tbReserved = true ∧ (dropping 0x4000800).view.pbReserved = true ∧
    registerExists (dropping 0x4000800).view.cfg = true ∧
    (dropping 0).view.tbReserved = false ∧ (dropping 0).view.pbReserved = false ∧
    (dropping 0).env.tbuSelfHosted = true ∧ (dropping 0).env.profilingEnabled = true ∧
    (dropping 0).cfg.CU_NSTB_RESERVED = .DropAndEvent ∧ (dropping 0).cfg.CU_NSPB_RESERVED = .DropAndEvent ∧
    (next? (hostEvent (.traceData .EL3) (dropping 0x4000800))).map (fun t => t.env.trbsr3.IRQ) = some true ∧
    (next? (hostEvent (.profilingData .EL3) (dropping 0x4000800))).map (fun t => t.env.pmbsr3.DL) = some true ∧
    [EL.EL0, .EL1, .EL2, .EL3].map (fun x => (next? (hostEvent (.traceData x) (dropping 0x4000800))).map
      fun t => (t.env.trbsr1.S, t.env.trbsr2.S, t.env.trbsr3.S)) =
      [some (false, false, false), some (true, false, false), some (false, true, false), some (false, false, true)] ∧
    (next? (hostEvent (.profilingData .EL1) (inUse .AsDisabled 0x4000800))).map (fun t => t.env.pmbsr1.S) =
      some false ∧
    (inUse .AsDisabled 0x4000800).view.tbReserved = true ∧ (inUse .AsDisabled 0x4000800).view.pbReserved = true ∧
    [ReservedOwner.AsDisabled, .PickOwner .Realm].map (fun p =>
        let w := (inUse p 0x4000800).view
        [tbTraceProhibited w .Secure, tbTraceProhibited w .Realm, profilingDisabled w .Secure,
          profilingDisabled w .Realm]) =
      [[some false, some false, some true, some true], [some true, some false, some true, some false]] := by
  decide +kernel

/-- ExternalAccessDisablesByVariant, ExternalBufferDisablesByValue: each field, in each variant, both ways where it can
be; ETBAD and EPMSSAD at each value, with FEAT_RME and without. -/
theorem witness_ExternalDisables :
    let r : SysReg := ⟨.OTHER, 7⟩
    let c : Config := { cAll with traceUnitRegs := [r], etadAffects := [r], traceBufferRegs := [r] }
    let v2 : Config := { c with FEAT_RME := false }
    let v3 : Config := { v2 with FEAT_Debugv8p4 := false }
    [c, v2, v3].map (fun c => (etadProhibits (vw c 0x700000 .EL1 Env.reset) ⟨r, .NonSecure⟩,
      epmadProhibits (vw c 0x700000 .EL1 Env.reset) ⟨⟨.PMCFGR, 0⟩, .NonSecure⟩,
      edadProhibits (vw c 0x700000 .EL1 Env.reset) ⟨⟨.OSLAR_EL1, 0⟩, .NonSecure⟩,
      edadProhibits (vw c 0x700000 .EL1 Env.reset) ⟨⟨.OSLAR_EL1, 0⟩, .Secure⟩)) =
      [(true, true, true, false), (true, true, true, false), (true, true, true, true)] ∧
    [(0 : Word), 0x1200000000000, 0x2400000000000, 0x3600000000000].map (fun b =>
        let w := vw c b .EL1 Env.reset
        (w.value .ETBAD, w.value .EPMSSAD, etbadProhibits w ⟨r, .Realm⟩,
          epmssadProhibits w ⟨⟨.PMSSCR_EL1, 0⟩, .Secure⟩)) =
      [(some 0, some 0, true, true), (some 1, some 1, false, true), (some 2, some 2, true, false),
       (some 3, some 3, false, false)] ∧
    (vw v2 0x2200000000000 .EL1 Env.reset).value .ETBAD = some 2 ∧
    (vw v2 0x2200000000000 .EL1 Env.reset).value .EPMSSAD = some 1 := by decide +kernel

/-- RootAccessesAreNeverProhibited. -/
theorem witness_RootAccess : cAll.FEAT_RME = true ∧ (ExtAccess.mk ⟨.PMSSCR_EL1, 0⟩ .Root).attr = .Root := by
  decide +kernel

/-- ResetLeavesDebuggerAccessAsStated, ProfilingExceptionsOffAfterReset: a view right after a
reset, with a Trace Buffer register and a snapshot register. -/
theorem witness_AfterReset :
    let c : Config := { cAll with traceBufferRegs := [⟨.TRBPTR_EL1, 0⟩] }
    let w := vw c (warmResetBits c vGood 0 vTrap) .EL3 Env.reset
    registerExists w.cfg = true ∧ w.bits = warmResetBits w.cfg vGood 0 vTrap ∧
    w.has .ETBAD = true ∧ w.has .EPMSSAD = true ∧
    (⟨.TRBPTR_EL1, 0⟩ : SysReg) ∈ w.cfg.traceBufferRegs ∧ w.cfg.FEAT_PMUv3_ICNTR = true ∧
    w.has .TRBEE = true ∧ w.has .PMSEE = true ∧ w.has .PMEE = true := by decide +kernel

/-- EventCounterJointTable: the four rows of the joint table (MPMX is bit 35, SPME bit 17: R28), MPMX without SPME, and
variants 2 and 3. -/
theorem witness_EventCounterJointTable :
    [(0 : Word), 0x20000, 0x800000000, 0x800020000].map (fun b =>
      let w := vw cAll b .EL3 { Env.reset with ranges := [.first, .second] }
      (w.value .MPMX, w.value .SPME, countingProhibited w (.PMEVCNTR 0), countingProhibited w (.PMEVCNTR 1))) =
      [(some 0, some 0, true, true), (some 0, some 1, false, false), (some 1, some 0, true, true),
       (some 1, some 1, true, false)] ∧
    cAll.FEAT_PMUv3p7 = true ∧
    (vw { cAll with FEAT_PMUv3 := false } 0x800000000 .EL3 Env.reset).value .MPMX = some 1 ∧
    (vw { cAll with FEAT_PMUv3 := false } 0x800000000 .EL3 Env.reset).value .SPME = none ∧
    [{ cAll with FEAT_PMUv3p7 := false }, { cAll with FEAT_PMUv3p7 := false, FEAT_Debugv8p2 := false }].map (fun c =>
      (c.FEAT_PMUv3p7, c.FEAT_Debugv8p2,
        countingProhibited (vw c 0 .EL1 { Env.reset with ss := .Secure }) (.PMEVCNTR 9),
        countingProhibited (vw c 0 .EL1 { Env.reset with ss := .Secure, extSecureNoninvasive := true })
          (.PMEVCNTR 9))) =
      [(false, true, true, true), (false, false, true, false)] := by decide +kernel

/-- CycleCounterProhibitions: MCCD at EL3 and not below it, SCCD in Secure state, MPMX with PMCR_EL0.DP only. -/
theorem witness_CycleCounterProhibitions :
    let at3 := fun (b : Word) (env : Env) => countingProhibited (vw cAll (b ||| 0x20000) .EL3 env) .PMCCNTR
    let at1 := fun (b : Word) (env : Env) => countingProhibited (vw cAll (b ||| 0x20000) .EL1 env) .PMCCNTR
    (at3 0x400000000 Env.reset, at1 0x400000000 { Env.reset with ss := .Secure },
     at1 0x800000 { Env.reset with ss := .Secure }, at3 0x800000000 Env.reset,
     at3 0x800000000 { Env.reset with pmcrDP := true },
     countingProhibited (vw cAll 0x800020000 .EL3 Env.reset) .PMICNTR) =
      (true, false, true, false, true, true) := by decide +kernel

theorem witness_MtBitsFollowMTPME :
    (vw cAll 0x10000000 .EL1 Env.reset).value .MTPME = some 1 ∧ (vw cAll 0 .EL1 Env.reset).value .MTPME = some 0 ∧
    (vw cMin 0 .EL1 Env.reset).value .MTPME = none ∧ impl cAll .MTPME = true := by decide +kernel

/-- PmuInterruptFollowsPMEE, CaptureEventsFollowPMSSE, BufferEventsAtEL3, DebugExceptionControls,
BranchRecordControlByValue: the values of the two-bit fields (R28), and the fields RES0. -/
theorem witness_TwoBitFields :
    [(0 : Word), 0x28010140004000, 0x50020280008000, 0x780303C000C000].map (fun b =>
      let w := vw cAll b .EL1 Env.reset
      (w.value .TRBEE, w.value .PMSEE, w.value .PMEE, w.value .SBRBE, w.value .PMSSE, w.value .SPD32)) =
      [(some 0, some 0, some 0, some 0, some 0, some 0), (some 1, some 1, some 1, some 1, some 1, some 1),
       (some 2, some 2, some 2, some 2, some 2, some 2), (some 3, some 3, some 3, some 3, some 3, some 3)] ∧
    (let w := vw cMin 0 .EL1 Env.reset
     (w.value .TRBEE, w.value .PMSEE, w.value .PMEE, w.value .SBRBE, w.value .PMSSE, w.has .SPD32)) =
      (none, none, none, none, none, false) ∧ impl cAll .PMSSE = true := by decide +kernel

/-- STE prohibits in Secure state (95_test_vectors.md 2.11), RLTE in Realm state. -/
theorem witness_TraceEnablesByState :
    steProhibits (vw cAll 0 .EL1 Env.reset) .Secure = true ∧
    rlteProhibits (vw cAll 0 .EL1 Env.reset) .Realm = true ∧
    steProhibits (vw cAll 0x40000 .EL1 Env.reset) .Secure = false := by decide +kernel

theorem witness_FZeroBitsAreForced :
    (vw cAll 0 .EL1 Env.reset).value .EnPM2 = some 0 ∧ cAll.FEAT_PMUv3_ICNTR = true ∧
    (vw cAll 0 .EL0 Env.reset).el ≠ .EL3 ∧ (vw cAll 0 .EL2 Env.reset).el = .EL2 := by decide +kernel

/-- BranchRecordingAcrossResets, BranchRecordControlByValue: also a System instruction at EL0 (conflict C3). -/
theorem witness_BranchRecording :
    registerExists cAll = true ∧ cAll.FEAT_BRBEv1p1 = true ∧
    ({ cAll with FEAT_BRBEv1p1 := false } : Config).FEAT_BRBEv1p1 = false ∧
    (vw { cAll with FEAT_BRBEv1p1 := false } 0 .EL3 Env.reset).has .SBRBE = true ∧
    trapSBRBE (vw cAll 0 .EL0 Env.reset) (acc .AArch64 .SYS .BRB_IALL 0 .EL0 .Secure false) = some 0x18 := by
  decide +kernel

/-- SDD's and SPD32's conditions, and their negations; each value of SPD32 for Secure EL0 (R242). -/
theorem witness_DebugExceptionControls :
    let w := vw cAll 0x10000 .EL1 { Env.reset with ss := .Secure }
    w.value .SDD = some 1 ∧ w.env.ss = .Secure ∧ w.env.scrRW = w.cfg.SDD_RW_VALUE ∧
    sddDisables w ⟨true, false⟩ = true ∧ sddDisables w ⟨true, true⟩ = false ∧ w.has .SPD32 = true ∧
    (vw cAll 0 .EL1 Env.reset).env.ss ≠ .Secure ∧
    [(0 : Word), 0x4000, 0x8000, 0xC000].map (fun b =>
        let w := vw cAll b .EL1 { Env.reset with ss := .Secure, secureEL1AArch32 := true }
        (w.value .SPD32, w.env.scrRW, secureEL0BySPD32 w)) =
      [(some 0, false, some false), (some 1, false, some false), (some 2, false, some false),
       (some 3, false, some true)] ∧
    secureEL0BySDD (vw cAll 0 .EL1 { Env.reset with
      secureEL1AArch32 := true, secureEL2Enabled := true, suiden := true }) = some true := by decide +kernel

/-- PmuInterruptFollowsPMEE: a write that finds and leaves the reserved 0b10 in bits 41:40 (R28). -/
theorem witness_ReservedPmee :
    let s := { st cAll 0x20000000000 .EL3 0 with
      mdcr := ⟨0x20000000000, 0, 7⟩, draws := 9, x := Vector.replicate 31 0x20000000000 }
    fieldOf .PMEE s.mdcr.bits = 2 ∧
    (next? (exec (.msr 1) s)).map (fun t => (fieldOf .PMEE t.mdcr.bits, t.mdcr.choice)) = some (2, 7) := by
  decide +kernel

theorem witness_ExtendedBreakpoints :
    (vw cAll 0 .EL3 Env.reset).value .EBWE = some 0 ∧ (vw cAll 0x80000000000 .EL3 Env.reset).value .EBWE = some 1 ∧
    (vw cMin 0 .EL3 Env.reset).value .EBWE = none ∧ impl cAll .EBWE = true := by decide +kernel

/-- A PE without EL3, and one without AArch64 at EL3. -/
def cNo3 : Config := { cAll with haveEL3 := false }
def cNo64 : Config := { cAll with FEAT_AA64 := false }

/-- FieldsActWithTheEffectiveValue: rows of R78's table by SCR_EL3.NS; fields without one, RES0 or unlisted. -/
theorem witness_EffectiveValues :
    [false, true].map (fun ns => let w := vw cNo3 vTrap .EL1 { Env.reset with scrNS := ns }
      (w.value .PMSSE, w.value .NSTB, w.value .STE, w.value .SPD32, w.value .TDA)) =
      [(some 1, some 1, some 1, some 3, none), (some 1, some 3, none, none, none)] ∧
    (vw { cMin with haveEL3 := false } 0 .EL1 Env.reset).value .SPME = none ∧
    (vw { cMin with haveEL3 := false } 0 .EL1 Env.reset).value .EDAD = some 1 ∧
    (vw cNo64 vTrap .EL1 Env.reset).value .SBRBE = none ∧ cNo64.haveEL3 = true ∧ cNo64.FEAT_AA64 = false ∧
    registerExists cNo3 = false ∧ registerExists cAll = true := by decide +kernel

/-- AbsentRegisterHasNoState, ResetEventLoadsTheShadow: a state without the register that meets the invariant, with
memory that is canonical, and both resets. -/
theorem witness_AbsentRegister :
    let s : State := { st cNo3 0 .EL1 0 with mdcr := .absent, mdcrEff := .absent }
    let p : ResetSupply := { x := Vector.replicate 31 0, pc := 0, el := .EL2, ss := .NonSecure, nzcv := 0 }
    registerExists s.cfg = false ∧ s.Inv ∧ registerExists (st cAll 0 .EL3 0).cfg = true ∧
    ((next? (hostEvent (.coldReset p) (st cNo3 vTrap .EL1 0))).map fun t => t.mdcr) = some ⟨0, 0, 0⟩ ∧
    ((next? (hostEvent (.warmReset p) (st cNo3 vTrap .EL1 0))).map fun t => t.mdcrEff) = some ⟨0, 0, 0⟩ := by
  refine ⟨?_, ⟨?_, ⟨?_, ?_, ?_⟩, ?_, ?_, ?_⟩, ?_, ?_, ?_⟩ <;> decide +kernel

/-- ResetSetsEachFieldByItsClass: a field of each reset class. -/
theorem witness_ResetClasses :
    impl cAll .TRBEE = true ∧ resetClass .TRBEE = .warmZero ∧ impl cAll .TDA = true ∧
    resetClass .TDA = .warmUnknown ∧ impl cAll .MTPME = true ∧ resetClass .MTPME = .cold 1 := by decide +kernel

end Sys2Proof.Tests
end

section
/-! PROOFS. The step and the accessors (O4, O6, O12): what the fetch finds at the pc, and what a step makes of it. -/

namespace Sys2Proof.Machine

/-! ## The fetch, case by case (log entries 7, 11) -/

theorem fetch_of_misaligned {s : State} (h : s.pc.toNat % 4 ≠ 0) : fetch s = .refused .misalignedPc := by
  simp [fetch, h]

theorem fetch_of_unlisted {s : State} (ha : s.pc.toNat % 4 = 0) (hb : Memory.readBytes s.mem s.pc 4 = none) :
    fetch s = .fault .noInstruction := by
  simp [fetch, ha, hb]

theorem fetch_of_decode_error {s : State} {bs : List Byte} {e : DecodeError} (ha : s.pc.toNat % 4 = 0)
    (hb : Memory.readBytes s.mem s.pc 4 = some bs) (hd : decode bs = .error e) :
    fetch s = .refused (.notAnAccessor e) := by
  simp [fetch, ha, hb, hd]

/-! ## The step, case by case -/

theorem step_of_event {s : State} {ev : HostEvent} {rest : List HostEvent} (h : s.inbox = ev :: rest) :
    step s = hostEvent ev { s with inbox := rest } := by
  simp [step, h]

/-- With no pending host event a step is what the fetch makes of it. -/
theorem step_of_noEvent {s : State} (h : s.inbox = []) : step s = instrStep s exec := by
  simp [step, h]

theorem step_of_fetch_instr {s : State} {i : Instr} (h : s.inbox = []) (hf : fetch s = .instr i) :
    step s = s.handOver (exec i s) := by
  simp [step_of_noEvent h, instrStep, hf]

theorem step_of_fetch_fault {s : State} {r : Fault} (h : s.inbox = []) (hf : fetch s = .fault r) :
    step s = .fault r := by
  simp [step_of_noEvent h, instrStep, hf]

theorem step_of_fetch_refused {s : State} {r : Refusal} (h : s.inbox = []) (hf : fetch s = .refused r) :
    step s = .refused r := by
  simp [step_of_noEvent h, instrStep, hf]

/-! ## Handing an outcome to the host (D10, R301, R314) -/

@[simp] theorem State.handOver_next (s t : State) : s.handOver (.next t) = .next t := rfl

@[simp] theorem State.handOver_refused (s : State) (r : Refusal) : s.handOver (.refused r) = .refused r := rfl

/-- The host takes an `Undefined` where it supplies an entry; else the step ends in the fault. -/
theorem State.handOver_undefined (s : State) :
    s.handOver (.fault .undefined) =
      s.env.undefinedEntry.elim (.fault .undefined) (fun e => .next (s.takeUndefined e)) := by
  cases h : s.env.undefinedEntry <;> simp [State.handOver, h]

/-- The host takes a `TrapToEL3` where it supplies an entry; else the step ends in the fault. -/
theorem State.handOver_trapToEL3 (s : State) (ec : EC) :
    s.handOver (.fault (.trapToEL3 ec)) =
      s.env.trapEntry.elim (.fault (.trapToEL3 ec)) (fun e => .next (s.takeTrapToEL3 ec e)) := by
  cases h : s.env.trapEntry <;> simp [State.handOver, h]

/-! ## The statements -/

/-- Settles O6: a pending event is taken first, and each way of finding no accessor has its own stop. -/
theorem stepWithoutAnAccessor : Obligations.StepWithoutAnAccessor := by
  unfold Obligations.StepWithoutAnAccessor
  refine ⟨fun s ev rest h => step_of_event h, fun s h => ⟨fun ha => ?_, fun ha hb => ?_, fun bs e ha hb hd => ?_⟩⟩
  · exact step_of_fetch_refused h (fetch_of_misaligned ha)
  · exact step_of_fetch_fault h (fetch_of_unlisted ha hb)
  · exact step_of_fetch_refused h (fetch_of_decode_error ha hb hd)

/-- Settles O4: the step is the hand-over of the decoded instruction's outcome, taken outcome by outcome. -/
theorem stepRunsTheDecodedInstruction : Obligations.StepRunsTheDecodedInstruction := by
  unfold Obligations.StepRunsTheDecodedInstruction
  intro s i bs rest _ hi ha hb hd
  have hstep : step s = s.handOver (exec i s) :=
    step_of_fetch_instr hi (fetch_eq_instr.2 ⟨ha, bs, rest, hb, hd⟩)
  refine ⟨fun t h => ?next, fun r h => ?refused, fun h => ?undefined, fun ec h => ?trap⟩ <;> rw [hstep, h]
  case next => exact s.handOver_next t
  case refused => exact s.handOver_refused r
  case undefined => rw [State.handOver_undefined]; cases s.env.undefinedEntry <;> rfl
  case trap => rw [State.handOver_trapToEL3]; cases s.env.trapEntry <;> rfl

/-- An accessor that completes goes on at pc + 4 (R145). -/
theorem exec_next_pc {i : Instr} {s t : State} (h : exec i s = .next t) : t.pc = s.pc + 4 := by
  cases i with
  | mrs n => obtain ⟨-, rfl⟩ := exec_mrs_eq_next.1 h; simp
  | msr n => obtain ⟨-, -, rfl⟩ := exec_msr_eq_next.1 h; simp

/-- Every outcome of an accessor is one of R18's. -/
theorem specOutcome_exec (i : Instr) (s : State) : specOutcome (exec i s) := by
  unfold specOutcome
  cases h : exec i s with
  | next t => exact .inl ⟨t, rfl⟩
  | fault r =>
    obtain ⟨-, ⟨-, rfl⟩ | ⟨-, -, rfl, -⟩⟩ := exec_eq_fault.1 h
    · exact .inr (.inl rfl)
    · exact .inr (.inr (.inl ⟨0x18, rfl⟩))
  | refused r =>
    obtain ⟨-, rfl⟩ := exec_eq_refused.1 h
    exact .inr (.inr (.inr rfl))

/-- Settles O12, from the inversion of each outcome of an accessor. -/
theorem accessorsFallThrough : Obligations.AccessorsFallThrough := by
  unfold Obligations.AccessorsFallThrough
  exact fun i s => ⟨specOutcome_exec i s, fun _ => exec_next_pc⟩

end Sys2Proof.Machine
end

section
/-! PROOFS. A register that does not exist (O54): two views that differ only in what no field acts with give the
same answer to every query, and no trap control matches without the register. -/

namespace Sys2Proof.Machine

/-- Two views that no indirect reader can tell apart: the same parameters, inputs, Exception level and draw number,
every field acts with the same value, and the draw of a reserved PMEE is the same where PMEE holds 0b10 (R174). -/
structure View.Agree (w w' : View) : Prop where
  cfg : w.cfg = w'.cfg
  env : w.env = w'.env
  el : w.el = w'.el
  k : w.k = w'.k
  value : ∀ f, w.value f = w'.value f
  choice : w.value .PMEE = some 2 → w.choice = w'.choice

/-! ## A register that does not exist is seen the same whatever is stored (R78, R127) -/

/-- Without EL3 the Effective value of PMEE is 1 (R78), so the draw of a reserved PMEE plays no part. -/
theorem View.pmee_ne_two_of_absent {w : View} (h : registerExists w.cfg = false) : w.value .PMEE ≠ some 2 := by
  rw [View.value_of_absent h]
  unfold effectiveNoEL3
  split
  · simp
  · split <;> simp

theorem View.agree_of_absent {w : View} (h : registerExists w.cfg = false) (b : Word) (k : Nat) :
    View.Agree { w with bits := b, choice := k } w where
  cfg := rfl
  env := rfl
  el := rfl
  k := rfl
  value f := by
    rw [View.value_of_absent h, View.value_of_absent (w := { w with bits := b, choice := k }) h]
  choice hp := absurd hp (View.pmee_ne_two_of_absent (w := { w with bits := b, choice := k }) h)

/-! ## Views that agree answer alike -/

section Agree

variable {w w' : View}

/-! ### The readings of a field -/

theorem View.Agree.has (h : View.Agree w w') (f : Field) : w.has f = w'.has f := by simp [View.has, h.value]

theorem View.Agree.fld (h : View.Agree w w') (f : Field) : w.fld f = w'.fld f := by simp [View.fld, h.value]

theorem View.Agree.holds (h : View.Agree w w') (f : Field) (n : Word) : w.holds f n = w'.holds f n := by
  simp [View.holds, h.has, h.fld]

theorem View.Agree.isSet (h : View.Agree w w') (f : Field) : w.isSet f = w'.isSet f := h.holds f 1

theorem View.Agree.isClear (h : View.Agree w w') (f : Field) : w.isClear f = w'.isClear f := h.holds f 0

theorem View.Agree.nstbe (h : View.Agree w w') : w.nstbe = w'.nstbe := by
  simp [View.nstbe, View.ownerBit, h.value, h.cfg, h.k]

theorem View.Agree.nspbe (h : View.Agree w w') : w.nspbe = w'.nspbe := by
  simp [View.nspbe, View.ownerBit, h.value, h.cfg, h.k]

theorem View.Agree.rangeOf (h : View.Agree w w') (n : Nat) : w.rangeOf n = w'.rangeOf n := by
  simp [View.rangeOf, h.env]

/-! ### Counting, PMUIRQ, the MT and F0 bits -/

theorem View.Agree.countingProhibited (h : View.Agree w w') (c : Counter) :
    countingProhibited w c = countingProhibited w' c := by
  have hmpmx : mpmxProhibits w c = mpmxProhibits w' c := by
    cases c <;> simp only [mpmxProhibits, mpmxAffects, h.isSet, h.fld, h.rangeOf, h.cfg, h.env, h.el]
  have hspme : spmeProhibits w c = spmeProhibits w' c := by
    cases c <;> simp only [spmeProhibits, spmeAffects, spmeOldAffects, h.isClear, h.fld, h.rangeOf, h.cfg, h.env, h.el]
  simp only [Machine.countingProhibited, hmpmx, hspme, mccdProhibits, sccdProhibits, h.isSet, h.env, h.el]

theorem View.Agree.captureEvents (h : View.Agree w w') : captureEvents w = captureEvents w' := by
  simp only [Machine.captureEvents, h.has, h.fld, h.env]

theorem View.Agree.mtpmeActsAsZero (h : View.Agree w w') : mtpmeActsAsZero w = mtpmeActsAsZero w' := by
  simp only [Machine.mtpmeActsAsZero, h.isClear, h.has, h.cfg, h.env]

/-- The mode of a reserved PMEE is a free value by the draw that fixed it (R174): here the views' `choice` counts. -/
theorem View.Agree.pmeeMode (h : View.Agree w w') : pmeeMode w = pmeeMode w' := by
  by_cases hp : w.value .PMEE = some 2
  · have hp' : w'.value .PMEE = some 2 := h.value .PMEE ▸ hp
    simp [Machine.pmeeMode, View.has_of_value hp, View.has_of_value hp', View.fld_of_value hp, View.fld_of_value hp',
      h.choice hp]
  · rw [h.value] at hp
    simp only [Machine.pmeeMode, h.has, h.fld]
    cases hv : w'.value .PMEE with
    | none => simp [View.has_of_none hv]
    | some v =>
      have hne : v ≠ 2#64 := by rintro rfl; exact hp hv
      simp [View.fld_of_value hv, hne]

theorem View.Agree.f0Forced (h : View.Agree w w') (r : RegName) : f0Forced w r = f0Forced w' r := by
  simp only [Machine.f0Forced, h.isClear, h.cfg, h.el]

/-! ### Self-hosted debug -/

theorem View.Agree.sddActive (h : View.Agree w w') : sddActive w = sddActive w' := by
  simp only [Machine.sddActive, h.has, h.env, h.cfg]

theorem View.Agree.spd32Active (h : View.Agree w w') : spd32Active w = spd32Active w' := by
  simp only [Machine.spd32Active, h.has, h.env]

theorem View.Agree.spd32SecureEL1 (h : View.Agree w w') : spd32SecureEL1 w = spd32SecureEL1 w' := by
  simp only [Machine.spd32SecureEL1, h.fld, h.env]

/-! ### External debugger accesses -/

theorem View.Agree.externalProhibited (h : View.Agree w w') (e : ExtAccess) :
    externalProhibited w e = externalProhibited w' e := by
  simp only [Machine.externalProhibited, etbadProhibits, epmssadProhibits, etadProhibits, epmadProhibits,
    edadProhibits, h.has, h.fld, h.isSet, h.cfg, h.env, h.k]

/-! ### Trace, profiling and branch recording -/

theorem View.Agree.trbeMode (h : View.Agree w w') : trbeMode w = trbeMode w' := by
  simp only [Machine.trbeMode, h.has, h.fld]

theorem View.Agree.speMode (h : View.Agree w w') : speMode w = speMode w' := by
  simp only [Machine.speMode, h.has, h.fld]

theorem View.Agree.ignoresHcr (h : View.Agree w w') (r : RegName) : ignoresHcr w r = ignoresHcr w' r := by
  simp only [Machine.ignoresHcr, h.holds]

theorem View.Agree.tbReserved (h : View.Agree w w') : w.tbReserved = w'.tbReserved := by
  simp only [View.tbReserved, h.has, h.fld, h.nstbe, h.cfg]

theorem View.Agree.tbOwner (h : View.Agree w w') : w.tbOwner = w'.tbOwner := by
  simp only [View.tbOwner, h.fld, h.nstbe]

theorem View.Agree.traceBufferUse (h : View.Agree w w') : traceBufferUse w = traceBufferUse w' := by
  simp only [Machine.traceBufferUse, h.has, h.tbReserved, h.tbOwner, h.cfg, h.env]

theorem View.Agree.pbReserved (h : View.Agree w w') : w.pbReserved = w'.pbReserved := by
  simp only [View.pbReserved, h.has, h.fld, h.nspbe, h.cfg]

theorem View.Agree.pbOwner (h : View.Agree w w') : w.pbOwner = w'.pbOwner := by
  simp only [View.pbOwner, h.fld, h.nspbe]

theorem View.Agree.profilingBufferUse (h : View.Agree w w') : profilingBufferUse w = profilingBufferUse w' := by
  simp only [Machine.profilingBufferUse, h.has, h.pbReserved, h.pbOwner, h.cfg, h.env]

theorem View.Agree.tbTraceProhibited (h : View.Agree w w') (ss : SecState) :
    tbTraceProhibited w ss = tbTraceProhibited w' ss := by
  simp only [Machine.tbTraceProhibited, h.traceBufferUse, h.env]

theorem View.Agree.steProhibits (h : View.Agree w w') (ss : SecState) : steProhibits w ss = steProhibits w' ss := by
  simp only [Machine.steProhibits, h.isClear, h.env]

theorem View.Agree.rlteProhibits (h : View.Agree w w') (ss : SecState) :
    rlteProhibits w ss = rlteProhibits w' ss := by
  simp only [Machine.rlteProhibits, h.isClear, h.env]

theorem View.Agree.tracingProhibited (h : View.Agree w w') (ss : SecState) :
    tracingProhibited w ss = tracingProhibited w' ss := by
  simp only [Machine.tracingProhibited, h.steProhibits, h.rlteProhibits, h.tbTraceProhibited]

theorem View.Agree.exposed (h : View.Agree w w') (f : Field) : exposed w f = exposed w' f := by
  simp only [Machine.exposed, h.has, h.isSet]

theorem View.Agree.branchProhibited (h : View.Agree w w') (el : EL) (ss : SecState) :
    branchProhibited w el ss = branchProhibited w' el ss := by
  simp only [Machine.branchProhibited, sbrbeProhibited, branchRecordingAtEL3, h.has, h.fld, h.cfg]

theorem View.Agree.traceDataEnv (h : View.Agree w w') (x : EL) : traceDataEnv w x = traceDataEnv w' x := by
  simp only [Machine.traceDataEnv, h.traceBufferUse, h.env]

theorem View.Agree.profilingDataEnv (h : View.Agree w w') (x : EL) :
    profilingDataEnv w x = profilingDataEnv w' x := by
  simp only [Machine.profilingDataEnv, h.profilingBufferUse, h.env]

/-! ### Every query -/

theorem View.Agree.effectiveValue (h : View.Agree w w') (f : Field) : effectiveValue w f = effectiveValue w' f := by
  cases f <;>
    simp only [Machine.effectiveValue, h.cfg, h.value, h.fld, h.sddActive, h.spd32Active, h.mtpmeActsAsZero]

/-- The answer to a query is a function of what the views agree on. -/
theorem View.Agree.answerQuery (h : View.Agree w w') (q : Query) : answerQuery w q = answerQuery w' q := by
  cases q with
  | external e => simp only [Machine.answerQuery, h.externalProhibited]
  | trbRecorded c => simp only [Machine.answerQuery, trbRecorded, h.trbeMode, h.env]
  | pmbRecorded c => simp only [Machine.answerQuery, pmbRecorded, h.speMode, h.env]
  | trbeMode => simp only [Machine.answerQuery, h.trbeMode]
  | speMode => simp only [Machine.answerQuery, h.speMode]
  | trbeDelegate => simp only [Machine.answerQuery, trbeDelegate, h.trbeMode, h.env]
  | speDelegate => simp only [Machine.answerQuery, speDelegate, h.speMode, h.env]
  | trbeException => simp only [Machine.answerQuery, trbeException, h.trbeMode, h.env]
  | speException => simp only [Machine.answerQuery, speException, h.speMode, h.env]
  | trbIrq => simp only [Machine.answerQuery, trbIrq, h.trbeMode, h.env]
  | pmbIrq => simp only [Machine.answerQuery, pmbIrq, h.speMode, h.env]
  | pmuIrq => simp only [Machine.answerQuery, pmuIrq, h.pmeeMode, h.env]
  | pmuException => simp only [Machine.answerQuery, pmuException, h.pmeeMode, h.env]
  | nv1For r => simp only [Machine.answerQuery, nv1For, h.ignoresHcr, h.env, h.el]
  | e2hFor r => simp only [Machine.answerQuery, e2hFor, h.ignoresHcr, h.env, h.el]
  | counting c => simp only [Machine.answerQuery, h.countingProhibited]
  | capture => simp only [Machine.answerQuery, h.captureEvents]
  | mtEffective b => simp only [Machine.answerQuery, mtEffective, h.mtpmeActsAsZero]
  | branchProhibited el ss => simp only [Machine.answerQuery, h.branchProhibited]
  | tracingProhibited ss => simp only [Machine.answerQuery, h.tracingProhibited]
  | profilingDisabled ss => simp only [Machine.answerQuery, profilingDisabled, h.profilingBufferUse]
  | traceBufferUse => simp only [Machine.answerQuery, h.traceBufferUse]
  | profilingBufferUse => simp only [Machine.answerQuery, h.profilingBufferUse]
  | traceAuthentication => simp only [Machine.answerQuery, h.exposed]
  | sddDisables x => simp only [Machine.answerQuery, sddDisables, h.sddActive, h.isSet]
  | spd32Enables x => simp only [Machine.answerQuery, spd32Enables, h.spd32Active, h.spd32SecureEL1]
  | secureEL0BySDD => simp only [Machine.answerQuery, secureEL0BySDD, h.has, h.env]
  | secureEL0BySPD32 => simp only [Machine.answerQuery, secureEL0BySPD32, h.spd32Active, h.spd32SecureEL1, h.env]
  | stepopDisabled => simp only [Machine.answerQuery, stepopDisabled, h.isClear]
  | embwe => simp only [Machine.answerQuery, effectiveEMBWE, h.isClear, h.env]
  | el2Ebwe => simp only [Machine.answerQuery, effectiveEL2EBWE, h.isClear, h.env]
  | bank => simp only [Machine.answerQuery, effectiveBANK, h.isClear, h.env, h.el]
  | f0Read r b => simp only [Machine.answerQuery, f0Read, h.f0Forced]
  | f0WriteIgnored r => simp only [Machine.answerQuery, h.f0Forced]
  | effective f => simp only [Machine.answerQuery, h.effectiveValue]

end Agree

/-! ## No control traps without the register (log entry 28) -/

section Absent

variable {w : View}

/-- No Effective value of R78 is 0. -/
theorem View.holds_zero_of_absent (h : registerExists w.cfg = false) (f : Field) : w.holds f 0 = false := by
  rw [Bool.eq_false_iff, ne_eq, View.holds_iff]
  intro hv
  simp [View.exists_of_value_zero hv] at h

theorem View.isClear_of_absent (h : registerExists w.cfg = false) (f : Field) : w.isClear f = false :=
  View.holds_zero_of_absent h f

/-- R78 gives the five controls that trap at 1 no Effective value. -/
theorem View.isSet_of_absent (h : registerExists w.cfg = false) {f : Field}
    (hf : f ∈ [Field.TDCC, .TTRF, .TDOSA, .TDA, .TPM]) : w.isSet f = false := by
  rw [Bool.eq_false_iff, ne_eq, View.isSet_iff, View.value_of_absent h]
  simp only [List.mem_cons, List.not_mem_nil, or_false] at hf
  rcases hf with rfl | rfl | rfl | rfl | rfl <;> simp [effectiveNoEL3]

/-- R78's Effective value of SBRBE is 0b11, which traps nothing (R180). -/
theorem View.sbrbe_of_absent (h : registerExists w.cfg = false) :
    w.value .SBRBE = none ∨ w.value .SBRBE = some 3 := by
  rw [View.value_of_absent h]
  unfold effectiveNoEL3
  grind

theorem trapSBRBE_of_absent (h : registerExists w.cfg = false) (a : Access) : trapSBRBE w a = none := by
  rcases View.sbrbe_of_absent h with hv | hv
  · simp [trapSBRBE, trapWhen, View.has_of_none hv]
  · simp [trapSBRBE, trapWhen, View.fld_of_value hv]

/-- Each of the nineteen controls is silent: those that trap at 0 or at 1 do not hold it, SBRBE holds 0b11, and the
two owner pairs trap only where the register exists. -/
theorem trapResults_of_absent (h : registerExists w.cfg = false) (el2 : Bool) (a : Access) :
    trapResults w el2 a = List.replicate 19 none := by
  have hclear := View.isClear_of_absent h
  have htrbee : trapTRBEE w a = none := by rw [trapTRBEE, View.holds_zero_of_absent h]; rfl
  have hpmsee : trapPMSEE w a = none := by rw [trapPMSEE, View.holds_zero_of_absent h]; rfl
  have hdcc : trapTDCC w a = none := by simp [trapTDCC, View.isSet_of_absent h (f := .TDCC) (by decide)]
  have htrf : trapTTRF w a = none := by simp [trapTTRF, View.isSet_of_absent h (f := .TTRF) (by decide)]
  have htdosa : trapTDOSA w el2 a = none := by simp [trapTDOSA, View.isSet_of_absent h (f := .TDOSA) (by decide)]
  have htda : trapTDA w a = none := by simp [trapTDA, View.isSet_of_absent h (f := .TDA) (by decide)]
  have htpm : trapTPM w a = none := by simp [trapTPM, View.isSet_of_absent h (f := .TPM) (by decide)]
  have hnstb : trapNSTB w a = none := by simp [trapNSTB, trapWhen, h]
  have hnspb : trapNSPB w a = none := by simp [trapNSPB, trapWhen, h]
  simp [trapResults, trapEnPMS4, trapEnSTEPOP, trapEnITE, trapEnPMSS, trapEBWE, trapEnPMS3, trapEnTB2, trapEnPMSN,
    trapEnPM2, trapWhen, hclear, htrbee, hpmsee, hdcc, htrf, htdosa, htda, htpm, hnstb, hnspb,
    trapSBRBE_of_absent h, List.replicate]

theorem trapCandidates_of_absent (h : registerExists w.cfg = false) (el2 : Bool) (a : Access) :
    trapCandidates w el2 a = [] := by
  simp [trapCandidates, trapResults_of_absent h]

end Absent

/-! ## The two places in State (log entry 28) -/

theorem Stored.eq_absent_of_withinKept {c : Config} {m : Stored} (hc : registerExists c = false)
    (h : m.withinKept c) : m = .absent := by
  obtain ⟨-, -, habsent⟩ := h
  exact habsent hc

/-- A reset leaves nothing in either place (R127). -/
theorem reset_mdcr_of_absent {s t : State} {p : ResetSupply} (hc : registerExists s.cfg = false)
    (h : hostEvent (.coldReset p) s = .next t ∨ hostEvent (.warmReset p) s = .next t) :
    t.mdcr = .absent ∧ t.mdcrEff = .absent := by
  rcases h with h | h <;> cases h <;> exact ⟨resetStored_of_absent hc _ _, resetStored_of_absent hc _ _⟩

/-- With other contents in the two places a unit's view agrees with the one before. -/
theorem State.view_agree_of_absent {s : State} (hc : registerExists s.cfg = false) (m e : Stored) :
    View.Agree { s with mdcr := m, mdcrEff := e }.view s.view :=
  View.agree_of_absent (w := s.view) hc _ _

/-- An access is announced to proceed, whatever the two places hold. -/
theorem accessEvent_of_absent {s : State} (hc : registerExists s.cfg = false) (q : AccessReq) (higher el2 : Bool) :
    accessEvent q higher el2 s = .next (s.announce .proceeds) := by
  have hcands := trapCandidates_of_absent (w := s.view) hc el2 (s.accessRecord q)
  simp [accessEvent, accessOutcome, hcands]

/-- What a host event does outside the two places does not depend on what they hold. -/
theorem hostEvent_blind_of_absent {s : State} (hc : registerExists s.cfg = false) (m e : Stored) (ev : HostEvent) :
    mapNext State.blind (hostEvent ev { s with mdcr := m, mdcrEff := e }) =
      mapNext State.blind (hostEvent ev s) := by
  have hview := State.view_agree_of_absent hc m e
  cases ev with
  | access q higher el2 =>
    have hc' : registerExists { s with mdcr := m, mdcrEff := e }.cfg = false := hc
    simp only [hostEvent, accessEvent_of_absent hc, accessEvent_of_absent hc']
    rfl
  | query q => simp only [hostEvent, hview.answerQuery]; rfl
  | traceData x => simp only [hostEvent, hview.traceDataEnv]; rfl
  | profilingData x => simp only [hostEvent, hview.profilingDataEnv]; rfl
  | inputs env => simp only [hostEvent, State.setInputs]; split <;> rfl
  | _ => rfl

/-- Settles O54, clause by clause: no control matches, every query is answered alike, and the two places hold
nothing and are read by no event. -/
theorem absentRegisterHasNoState : Obligations.AbsentRegisterHasNoState := by
  unfold Obligations.AbsentRegisterHasNoState
  refine ⟨fun w el2 a h => trapCandidates_of_absent h el2 a,
    fun w b k q h => (View.agree_of_absent h b k).answerQuery q, fun s hc => ⟨?inv, ?reset, ?blind⟩⟩
  case inv =>
    rintro ⟨-, hmdcr, heff⟩
    exact ⟨Stored.eq_absent_of_withinKept hc hmdcr, Stored.eq_absent_of_withinKept hc heff⟩
  case reset => exact fun p t h => reset_mdcr_of_absent hc h
  case blind => exact hostEvent_blind_of_absent hc

end Sys2Proof.Machine
end

section
/-! PROOFS. The step as a whole (O17, O20, O11): what a reset, a write and a host event leave in MDCR_EL3 and its
shadow, and when an accessor is refused. -/

namespace Sys2Proof.Machine

/-! ## What the register and its shadow can hold (R29, R75, R127) -/

/-- A reset value within the storable bits is stored so, and a register that does not exist stays empty (R127, R342). -/
theorem resetStored_withinKept {c : Config} {b : Word} (h : b &&& ~~~keepMask c = 0) (k : Nat) :
    (resetStored c k b).withinKept c := by
  cases hx : registerExists c with
  | false => rw [resetStored_of_absent hx]; exact ⟨BitVec.zero_and, BitVec.zero_and, fun _ => rfl⟩
  | true =>
    rw [resetStored_of_exists hx]
    exact ⟨h, BitVec.and_not_self _, fun hc => by simp [hx] at hc⟩

/-- What `MSR` stores: no bit that is not storable, no UNKNOWN bit (R141, R343). It runs only where the register
exists. -/
theorem State.writeMDCR_withinKept {s : State} (h : registerExists s.cfg = true) (v : Word) :
    (s.writeMDCR v).mdcr.withinKept s.cfg :=
  ⟨storedBits_within _ _ _, BitVec.zero_and, fun hc => by simp [h] at hc⟩

/-- The invariant reads the parameters, memory and the two stored values only. -/
theorem State.Inv.of_frame {s t : State} (h : s.Inv) (hcfg : t.cfg = s.cfg) (hmem : t.mem = s.mem)
    (hmdcr : t.mdcr.withinKept s.cfg) (heff : t.mdcrEff.withinKept s.cfg) : t.Inv := by
  obtain ⟨hwf, -, -⟩ := h
  exact ⟨hmem ▸ hwf, hcfg ▸ hmdcr, hcfg ▸ heff⟩

/-- A step that leaves MDCR_EL3 alone, and in the shadow the old or the register's contents, keeps the invariant. -/
theorem State.Inv.of_mdcr_eq {s t : State} (h : s.Inv) (hcfg : t.cfg = s.cfg) (hmem : t.mem = s.mem)
    (hmdcr : t.mdcr = s.mdcr) (heff : t.mdcrEff = s.mdcrEff ∨ t.mdcrEff = s.mdcr) : t.Inv := by
  have ⟨_, hm, he⟩ := h
  refine h.of_frame hcfg hmem (hmdcr ▸ hm) ?_
  rcases heff with heff | heff
  · exact heff ▸ he
  · exact heff ▸ hm

/-- A reset that loads a value which the register can hold keeps the invariant (R342). -/
theorem State.Inv.afterReset {s : State} (h : s.Inv) (r : ResetSupply) {m : Stored} (hm : m.withinKept s.cfg) :
    (s.afterReset r m).Inv :=
  h.of_frame rfl rfl hm hm

/-! ## Each kind of step keeps the invariant -/

theorem hostEvent_keeps_inv {ev : HostEvent} {s t : State} (hs : s.Inv) (h : hostEvent ev s = .next t) : t.Inv := by
  obtain ⟨hcfg, hmem, -⟩ := hostEvent_frame h
  rcases hostEvent_mdcr h with ⟨r, ⟨-, rfl⟩ | ⟨-, rfl⟩⟩ | ⟨hmdcr, heff⟩
  · exact hs.afterReset r (resetStored_withinKept (coldResetBits_within _ _ _ _) _)
  · exact hs.afterReset r (resetStored_withinKept (warmResetBits_within _ _ _ _) _)
  · exact hs.of_mdcr_eq hcfg hmem hmdcr heff

theorem handOver_exec_keeps_inv {i : Instr} {s t : State} (hs : s.Inv) (h : s.handOver (exec i s) = .next t) :
    t.Inv := by
  rcases handOver_exec_eq_next h with
    ⟨n, -, -, rfl⟩ | ⟨n, -, ⟨hx, -, -⟩, -, rfl⟩ | ⟨e, -, rfl⟩ | ⟨ec, e, -, rfl⟩
  · exact hs.of_mdcr_eq (by simp) (by simp) (by simp) (.inl (by simp))
  · have ⟨_, _, he⟩ := hs
    exact hs.of_frame rfl rfl (State.writeMDCR_withinKept hx _) he
  · exact hs.of_mdcr_eq rfl rfl rfl (.inr rfl)
  · exact hs.of_mdcr_eq rfl rfl rfl (.inr rfl)

/-- Settles O17: a step is a host event or an instruction with its hand-over, and both keep the invariant. -/
theorem stepKeepsTheInvariant : Obligations.StepKeepsTheInvariant := by
  unfold Obligations.StepKeepsTheInvariant
  intro s t hs h
  rcases step_eq_next h with ⟨ev, rest, -, hev⟩ | ⟨-, i, -, hi⟩
  · exact hostEvent_keeps_inv (s := { s with inbox := rest }) hs hev
  · exact handOver_exec_keeps_inv hs hi

/-! ## Who writes MDCR_EL3 (R20, R30, R317) -/

/-- Of the host's events only a reset changes MDCR_EL3. -/
theorem hostEvent_mdcr_ne {ev : HostEvent} {s t : State} (h : hostEvent ev s = .next t) (hne : t.mdcr ≠ s.mdcr) :
    ∃ r, ev = .coldReset r ∨ ev = .warmReset r := by
  rcases hostEvent_mdcr h with ⟨r, ⟨hev, -⟩ | ⟨hev, -⟩⟩ | ⟨heq, -⟩
  · exact ⟨r, .inl hev⟩
  · exact ⟨r, .inr hev⟩
  · exact absurd heq hne

/-- Of the instructions, and the host's entries after them, only an `MSR` that completes changes MDCR_EL3. -/
theorem handOver_exec_mdcr_ne {i : Instr} {s t : State} (h : s.handOver (exec i s) = .next t)
    (hne : t.mdcr ≠ s.mdcr) : s.el = .EL3 ∧ s.writeLocked = false ∧ ∃ n, i = .msr n := by
  rcases handOver_exec_eq_next h with
    ⟨n, -, -, rfl⟩ | ⟨n, rfl, ⟨-, hel, -⟩, hlock, -⟩ | ⟨e, -, rfl⟩ | ⟨ec, e, -, rfl⟩
  · exact absurd (by simp) hne
  · exact ⟨hel, hlock, n, rfl⟩
  · exact absurd rfl hne
  · exact absurd rfl hne

/-- Settles O20: the oldest event is a reset, or the fetched instruction an `MSR` that completes. -/
theorem onlyMsrAtEL3AndResetWriteTheRegister : Obligations.OnlyMsrAtEL3AndResetWriteTheRegister := by
  unfold Obligations.OnlyMsrAtEL3AndResetWriteTheRegister
  intro s t h hne
  rcases step_eq_next h with ⟨ev, rest, hin, hev⟩ | ⟨hin, i, hf, hi⟩
  · obtain ⟨r, rfl | rfl⟩ := hostEvent_mdcr_ne hev hne
    · exact .inl ⟨r, rest, .inl hin⟩
    · exact .inl ⟨r, rest, .inr hin⟩
  · obtain ⟨hel, hlock, n, rfl⟩ := handOver_exec_mdcr_ne hi hne
    obtain ⟨-, bs, rest, hb, hd⟩ := fetch_eq_instr.1 hf
    exact .inr ⟨hin, hel, hlock, n, bs, rest, hb, hd⟩

/-! ## The refusal (R22, D13) -/

/-- Settles O11, from the inversion of a refusal: it comes exactly at `pcTop`, and under its one name. -/
theorem accessorsRefusedOnlyAtTheTop : Obligations.AccessorsRefusedOnlyAtTheTop := by
  unfold Obligations.AccessorsRefusedOnlyAtTheTop
  refine fun i s => ⟨fun hpc => exec_eq_refused.2 ⟨hpc, rfl⟩, fun r h => ?_⟩
  obtain ⟨hpc, hr⟩ := exec_eq_refused.1 h
  exact ⟨hr, hpc⟩

end Sys2Proof.Machine
end

section
/-! PROOFS. What a field acts with (O53): R78's table on a PE without EL3, and what the `effective` query makes of the
three fields it does not answer as they are. -/

namespace Sys2Proof.Machine

/-! ## Without the register (R78, R127) -/

theorem registerExists_eq_false_of_no_EL3 {c : Config} (h : c.haveEL3 = false) : registerExists c = false := by
  simp [registerExists, h]

theorem registerExists_eq_false_of_no_AA64 {c : Config} (h : c.FEAT_AA64 = false) : registerExists c = false := by
  simp [registerExists, h]

theorem View.value_of_no_EL3 {w : View} (h : w.cfg.haveEL3 = false) (f : Field) :
    w.value f = effectiveNoEL3 w.cfg w.env.scrNS f := by
  simp [View.value_of_absent (registerExists_eq_false_of_no_EL3 h), h]

theorem View.value_of_no_AA64 {w : View} (hel3 : w.cfg.haveEL3 = true) (h : w.cfg.FEAT_AA64 = false) (f : Field) :
    w.value f = none := by
  simp [View.value_of_absent (registerExists_eq_false_of_no_AA64 h), hel3]

/-- The variants with an Effective value of ETAD, EPMAD and EDAD are those without FEAT_RME (R78, R210, R213, R217). -/
theorem variant_ETAD_eq_two {c : Config} (h : impl c .ETAD = true) :
    variant c .ETAD = 2 ↔ c.FEAT_RME = false := by
  cases hr : c.FEAT_RME <;> simp_all [variant, impl]

theorem variant_EPMAD_eq_two_or_three {c : Config} (h : impl c .EPMAD = true) :
    variant c .EPMAD = 2 ∨ variant c .EPMAD = 3 ↔ c.FEAT_RME = false := by
  cases hr : c.FEAT_RME <;> cases hd : c.FEAT_Debugv8p4 <;> simp_all [variant, impl]

theorem variant_EDAD_eq_one {c : Config} : variant c .EDAD = 1 ↔ c.FEAT_RME = true := by
  unfold variant
  grind

/-- R78's table for an implemented field: the value where it depends on nothing, by SCR_EL3.NS, and by FEAT_RME too. -/
theorem effectiveNoEL3_of_impl {c : Config} {f : Field} (ns : Bool) (h : impl c f = true) :
    effectiveNoEL3 c ns f =
      (if f ∈ [Field.TRBEE, .PMSEE, .EBWE, .PMEE, .PMSSE] then some 1
       else if f ∈ [Field.ETBAD, .EPMSSAD, .SBRBE] then some 3
       else if f ∈ [Field.NSTB, .NSPB] then some (if ns then 3 else 1)
       else if ns = false ∧ f = .SPD32 then some 3
       else if ns = false ∧ (f ∈ [Field.STE, .SPME] ∨ (c.FEAT_RME = false ∧ f ∈ [Field.ETAD, .EPMAD, .EDAD]))
         then some 1
       else none) := by
  cases f
  case ETAD => cases ns <;> simp [effectiveNoEL3, h, variant_ETAD_eq_two h]
  case EPMAD => cases ns <;> simp [effectiveNoEL3, h, variant_EPMAD_eq_two_or_three h]
  case EDAD => cases ns <;> cases hr : c.FEAT_RME <;> simp [effectiveNoEL3, h, variant_EDAD_eq_one, hr]
  all_goals cases ns <;> simp [effectiveNoEL3, h]

/-! ## The `effective` query of a register that exists (R201, R226, R240, R241) -/

theorem sddActive_iff {w : View} :
    sddActive w = true ↔ w.has .SDD = true ∧ w.env.ss = .Secure ∧ w.env.scrRW = w.cfg.SDD_RW_VALUE := by
  simp [sddActive, and_assoc]

theorem spd32Active_iff {w : View} :
    spd32Active w = true ↔ w.has .SPD32 = true ∧ w.env.ss = .Secure ∧ w.env.scrRW = false := by
  simp [spd32Active, and_assoc]

theorem mtpmeActsAsZero_iff {w : View} :
    mtpmeActsAsZero w = true ↔ w.value .MTPME = some 0 ∨ (w.has .MTPME = true ∧
      w.cfg.IMPDEF_MTPME_SIBLING_DISABLE = true ∧
      ∃ q ∈ w.env.siblings, q.sameLevel1Affinity = true ∧ q.MTPME = false) := by
  simp [mtpmeActsAsZero, and_assoc]

theorem effectiveValue_of_absent {w : View} (h : registerExists w.cfg = false) (f : Field) :
    effectiveValue w f = w.value f := by
  simp [effectiveValue, h]

theorem effectiveValue_of_exists {w : View} (h : registerExists w.cfg = true) {f : Field} (hsdd : f ≠ .SDD)
    (hspd32 : f ≠ .SPD32) (hmtpme : f ≠ .MTPME) : effectiveValue w f = w.value f := by
  simp [effectiveValue, h]

/-- SDD is answered where it is not ignored (R226). -/
theorem effectiveValue_SDD {w : View} (h : registerExists w.cfg = true) :
    effectiveValue w .SDD =
      if w.env.ss = .Secure ∧ w.env.scrRW = w.cfg.SDD_RW_VALUE then w.value .SDD else none := by
  cases hv : w.value .SDD with
  | none => simp [effectiveValue, hv]
  | some v => simp [effectiveValue, h, hv, sddActive_iff, View.has_of_value hv]

/-- SPD32 is answered where it is not ignored, a reserved one as 0b00 (R240, R241). -/
theorem effectiveValue_SPD32 {w : View} (h : registerExists w.cfg = true) :
    effectiveValue w .SPD32 = if w.env.ss = .Secure ∧ w.env.scrRW = false then
      (if w.value .SPD32 = some 1 then some 0 else w.value .SPD32) else none := by
  cases hv : w.value .SPD32 with
  | none =>
    have hoff : spd32Active w = false := by simp [spd32Active, View.has_of_none hv]
    simp [effectiveValue, h, hoff]
  | some v =>
    have hon : spd32Active w = true ↔ w.env.ss = .Secure ∧ w.env.scrRW = false := by
      simp [spd32Active_iff, View.has_of_value hv]
    simp only [← hon]
    by_cases ha : spd32Active w = true <;> simp [effectiveValue, h, hv, View.fld_of_value hv, ha]

/-- MTPME is answered as 0 where a sibling disables it (R201). -/
theorem effectiveValue_MTPME {w : View} (h : registerExists w.cfg = true) :
    effectiveValue w .MTPME = if w.value .MTPME = some 1 ∧ w.cfg.IMPDEF_MTPME_SIBLING_DISABLE = true ∧
      (∃ q ∈ w.env.siblings, q.sameLevel1Affinity = true ∧ q.MTPME = false) then some 0 else w.value .MTPME := by
  rcases View.value_cases_one (w := w) (f := .MTPME) rfl with hv | hv | hv
  · simp [effectiveValue, hv, mtpmeActsAsZero_iff, View.has_of_none hv]
  · simp [effectiveValue, hv, mtpmeActsAsZero_iff]
  · simp [effectiveValue, h, hv, mtpmeActsAsZero_iff, View.has_of_value hv]

/-- Settles O53: R78's table on a PE without EL3, the stored bits of a register that exists, and the query field by
field. -/
theorem fieldsActWithTheEffectiveValue : Obligations.FieldsActWithTheEffectiveValue := by
  unfold Obligations.FieldsActWithTheEffectiveValue
  refine ⟨fun w f => ⟨fun h => View.value_of_exists h f, fun hel3 h => View.value_of_no_AA64 hel3 h f,
      fun _ himpl => View.value_of_not_impl himpl, fun hel3 himpl => ?_⟩,
    fun w f => ⟨fun h => effectiveValue_of_absent h f, fun h => ⟨effectiveValue_of_exists h,
      effectiveValue_SDD h, effectiveValue_SPD32 h, effectiveValue_MTPME h⟩⟩⟩
  rw [View.value_of_no_EL3 hel3, effectiveNoEL3_of_impl _ himpl]

end Sys2Proof.Machine
end

section
/-! PROOFS. The layout and its masks (O58, O59): a mask of chosen fields, field by field. -/

namespace Sys2Proof.Machine

/-! ## Masks of chosen fields (R27) -/

/-- A chosen-fields mask, one field at a time. -/
theorem maskOf_filter_cons (p : Field → Bool) (f : Field) (fs : List Field) :
    maskOf ((f :: fs).filter p) = (bif p f then fieldMask f else 0#64) ||| maskOf (fs.filter p) := by
  cases h : p f <;> simp [h]

/-- The chosen fields within a list of fields. -/
theorem maskOf_filter_and_maskOf (p : Field → Bool) (fs : List Field) :
    maskOf (allFields.filter p) &&& maskOf fs = maskOf (fs.filter p) := by
  induction fs with
  | nil => exact BitVec.and_zero
  | cons f fs ih =>
    rw [maskOf_cons, BitVec.and_comm, or_and_right, BitVec.and_comm (fieldMask f), BitVec.and_comm (maskOf fs), ih,
      maskOf_filter_and_fieldMask, maskOf_filter_cons, Bool.cond_eq_ite]
    rfl

/-- Two masks under one condition. -/
theorem cond_or_zero {n : Nat} (b : Bool) (v w : BitVec n) :
    (bif b then v ||| w else 0#n) = (bif b then v else 0#n) ||| (bif b then w else 0#n) := by
  cases b
  · exact BitVec.or_zero.symm
  · rfl

/-- The three fields of every configuration (R27). -/
theorem maskOf_always : maskOf [.EDAD, .TDOSA, .TDA] = 0x00100600#64 := by decide +kernel

/-- The largest mask, and the bits of no field (R27). -/
theorem maskOf_allFields : maskOf allFields = 0x00FFFFFFDFFFFEDD := by decide +kernel

theorem implMask_and_always (c : Config) : implMask c &&& 0x00100600 = 0x00100600 := by
  have h := maskOf_filter_and_maskOf (impl c) [.EDAD, .TDOSA, .TDA]
  have himpl : [Field.EDAD, .TDOSA, .TDA].filter (impl c) = [.EDAD, .TDOSA, .TDA] := rfl
  rwa [himpl, maskOf_always] at h

theorem implMask_and_never (c : Config) : implMask c &&& 0xFF00000020000122 = 0 := by
  have h : implMask c &&& maskOf allFields = implMask c := maskOf_filter_and_maskOf (impl c) allFields
  rw [maskOf_allFields] at h
  rw [← h, BitVec.and_assoc]
  exact BitVec.and_zero

/-- The implemented bits, one summand per field in the order of the layout (R27). -/
theorem implMask_eq_foldr (c : Config) :
    implMask c = allFields.foldr (fun f m => (bif impl c f then fieldMask f else 0#64) ||| m) 0#64 := by
  unfold implMask
  induction allFields with
  | nil => rfl
  | cons f fs ih => rw [maskOf_filter_cons, ih, List.foldr_cons]

/-! ## The layout (R28) -/

/-- A bit is implemented when it lies in an implemented field (R27). -/
theorem getLsbD_implMask (c : Config) (i : Nat) (hi : i < 64) :
    (implMask c).getLsbD i = true ↔ ∃ f, impl c f = true ∧ fieldLsb f ≤ i ∧ i ≤ fieldMsb f := by
  rw [implMask, getLsbD_maskOf, List.any_eq_true]
  simp only [List.mem_filter, mem_allFields, true_and, getLsbD_fieldMask _ i hi, decide_eq_true_eq]

/-- A field is as wide as its ends say (R14, R28). -/
theorem fieldMsb_add_one (f : Field) : fieldMsb f + 1 = fieldLsb f + fieldWidth f := by
  have hpos : 0 < fieldWidth f := by cases f <;> decide
  unfold fieldMsb
  omega

/-! ## The fields that share a condition (R74) -/

theorem maskOf_PMUv3_SS : maskOf [.EPMSSAD, .EnPMSS, .PMSSE] = 0x00007000C0000000#64 := by decide +kernel
theorem maskOf_BRBEv1p1 : maskOf [.E3BREC, .E3BREW] = 0x0000006000000000#64 := by decide +kernel
theorem maskOf_PMUv3p7 : maskOf [.MPMX, .MCCD] = 0x0000000C00000000#64 := by decide +kernel
theorem maskOf_PMUv3 : maskOf [.SPME, .TPM] = 0x0000000000020040#64 := by decide +kernel

/-- Settles O58: R74's formula gathers the fields of one condition, and apart it has the summands of `implMask`, in
another order. -/
theorem implMaskIsTheStatedFormula : Obligations.ImplMaskIsTheStatedFormula := by
  unfold Obligations.ImplMaskIsTheStatedFormula
  intro c
  rw [← maskOf_always, ← maskOf_PMUv3_SS, ← maskOf_BRBEv1p1, ← maskOf_PMUv3p7, ← maskOf_PMUv3]
  simp only [implMask_eq_foldr, allFields, List.foldr_cons, List.foldr_nil, maskOf_cons, maskOf_nil, impl, implEBWE,
    ← Bool.cond_eq_ite, cond_true, BitVec.ofNat_eq_ofNat, BitVec.or_zero, cond_or_zero]
  simp only [fieldMask, fieldMsb, fieldLsb, fieldWidth, BitVec.reduceHShiftLeft, BitVec.reduceSub, Nat.reduceSub,
    Nat.reduceAdd]
  ac_rfl

/-- Settles O59: closed facts about the 42 fields by evaluation, and for every configuration the lemmas above. -/
theorem maskIdentities : Obligations.MaskIdentities := by
  unfold Obligations.MaskIdentities
  refine ⟨by decide +kernel, fun f => ⟨mem_allFields f, fieldMsb_add_one f⟩,
    fun c => ⟨implMask_and_always c, implMask_and_never c, rfl, getLsbD_implMask c⟩,
    by decide +kernel, by decide +kernel, fun f v => ⟨rfl, rfl⟩,
    auMask_eq, coldMask_eq, coldValue_eq, warmZeroMask_eq, ?_⟩
  rw [auMask_eq, coldMask_eq, warmZeroMask_eq]
  decide

end Sys2Proof.Machine
end

section
/-! PROOFS. Laying an instruction (O5), what no step changes (O19), and when a write takes effect (O22). -/

namespace Sys2Proof.Machine

/-! ## An instruction's bytes (R105, R123) -/

/-- The four bytes of a word, put together again, are the word (R105). -/
theorem wordOfBytes_extractLsb' (w : InsnWord) :
    wordOfBytes (w.extractLsb' 0 8) (w.extractLsb' 8 8) (w.extractLsb' 16 8) (w.extractLsb' 24 8) = w := by
  rw [wordOfBytes, BitVec.extractLsb'_append_extractLsb'_eq_extractLsb' (show 24 = 16 + 8 from rfl),
    BitVec.extractLsb'_append_extractLsb'_eq_extractLsb' (show 16 = 8 + 8 from rfl),
    BitVec.extractLsb'_append_extractLsb'_eq_extractLsb' (show 8 = 0 + 8 from rfl)]
  exact BitVec.extractLsb'_eq_self

@[simp] theorem length_bytesOfWord (w : InsnWord) : (bytesOfWord w).length = 4 := rfl

/-- The decoder reads the word that the bytes hold, and leaves the bytes after it. -/
theorem decode_bytesOfWord_append {w : InsnWord} {i : Instr} (h : decodeWord w = .ok i) (rest : List Byte) :
    decode (bytesOfWord w ++ rest) = .ok (i, rest) := by
  simp [bytesOfWord, decode, wordOfBytes_extractLsb', h]

theorem decodeWord_encode (i : Instr) : decodeWord (encode i) = .ok i := by
  cases i with
  | mrs n => obtain ⟨-, -, -, -, h⟩ := Laws.FixedBits.mrs n; exact h
  | msr n => obtain ⟨-, -, -, -, h⟩ := Laws.FixedBits.msr n; exact h

/-! ## A word laid at the pc (log entry 7) -/

/-- A word of all its 32 bits is laid as it is. -/
theorem State.withFetchWord_toNat (s : State) (w : InsnWord) : s.withFetchWord 32 w.toNat = s.placeWord w := by
  rw [State.withFetchWord, Nat.mod_eq_of_lt w.isLt, BitVec.ofNat_toNat, BitVec.setWidth_eq]

/-- The fetch finds the word laid at the pc: its four bytes do not overlap. -/
theorem State.readBytes_placeWord (s : State) (w : InsnWord) :
    Memory.readBytes (s.placeWord w).mem s.pc 4 = some (bytesOfWord w) :=
  Memory.readBytes_writeBytes (bytesOfWord w) s.mem s.pc (by simp)

theorem fetch_placeWord_encode {s : State} (h : s.pc.toNat % 4 = 0) (i : Instr) :
    fetch (s.placeWord (encode i)) = .instr i :=
  fetch_eq_instr.2 ⟨h, bytesOfWord (encode i), [], s.readBytes_placeWord _,
    decode_bytesOfWord_append (decodeWord_encode i) []⟩

/-- Settles O5: the fetch finds the instruction laid at the pc, and memory reads as before at every other address. -/
theorem placedWordRunsNext : Obligations.PlacedWordRunsNext := by
  unfold Obligations.PlacedWordRunsNext
  intro s i ha
  rw [State.withFetchWord_toNat]
  refine ⟨step_of_fetch_instr rfl (fetch_placeWord_encode ha i), rfl, fun a hne => ?_⟩
  exact Memory.read_writeBytes_of_notMem _ _ _ a fun j hj => (hne j hj).symm

/-! ## What no step changes (R9, R100) -/

/-- An instruction, with the host's entry after it, changes neither the parameters nor the host's memory. -/
theorem handOver_exec_frame {i : Instr} {s t : State} (h : s.handOver (exec i s) = .next t) :
    t.cfg = s.cfg ∧ t.mem = s.mem := by
  rcases handOver_exec_eq_next h with ⟨n, -, -, rfl⟩ | ⟨n, -, -, -, rfl⟩ | ⟨e, -, rfl⟩ | ⟨ec, e, -, rfl⟩ <;> simp

/-- No step changes the parameters or the host's memory, as one value. -/
theorem step_frame {s t : State} (h : step s = .next t) : t.cfg = s.cfg ∧ t.mem = s.mem := by
  rcases step_eq_next h with ⟨ev, rest, -, hev⟩ | ⟨-, i, -, hi⟩
  · obtain ⟨hcfg, hmem, -⟩ := hostEvent_frame hev
    exact ⟨hcfg, hmem⟩
  · exact handOver_exec_frame hi

/-- Settles O19: a memory that is unchanged as a whole reads the same at every address. -/
theorem stepChangesNoParameterAndNoMemory : Obligations.StepChangesNoParameterAndNoMemory := by
  unfold Obligations.StepChangesNoParameterAndNoMemory
  intro s t h
  obtain ⟨hcfg, hmem⟩ := step_frame h
  exact ⟨hcfg, fun a => by rw [hmem]⟩

/-! ## The value in force (R108) -/

theorem State.inForce_of_immediate {s : State} (h : s.cfg.SYNC_MODEL = .Immediate) : s.inForce = s.mdcr := by
  simp [State.inForce, h]

/-- With the shadow loaded both models act on the same value. -/
theorem State.inForce_of_mdcrEff_eq {s : State} (h : s.mdcrEff = s.mdcr) : s.inForce = s.mdcr := by
  rcases s.inForce_cases with hm | ⟨-, he⟩
  · exact hm
  · exact he.trans h

/-! ## What loads the shadow (R108) -/

/-- `MSR` leaves the shadow, and no bit it wrote is UNKNOWN to a direct read (R141, R343). -/
theorem exec_msr_next_sync {n : BitVec 5} {s t : State} (h : exec (.msr n) s = .next t) :
    t.mdcrEff = s.mdcrEff ∧ t.readMDCR = t.mdcr.bits := by
  obtain ⟨-, -, rfl⟩ := exec_msr_eq_next.1 h
  exact ⟨rfl, State.seen_eq _ _ rfl⟩

/-- New inputs load the shadow exactly when they end Debug state (log entry 15). -/
theorem State.setInputs_mdcrEff_eq (s : State) (env : Env) :
    (s.setInputs env).mdcrEff = if s.env.halted = true ∧ env.halted = false then s.mdcr else s.mdcrEff := by
  cases hs : s.env.halted <;> cases he : env.halted <;> simp [State.setInputs, hs, he]

/-- A context synchronization event loads the shadow and leaves the register. -/
theorem hostEvent_contextSync_mdcr {ev : HostEvent} {s t : State} (h : hostEvent ev s = .next t)
    (hev : ev = .contextSync ∨ (∃ e, ev = .exceptionEntry e) ∨ (∃ e, ev = .exceptionReturn e) ∨ ev = .debugExit) :
    t.mdcr = s.mdcr ∧ t.mdcrEff = s.mdcr := by
  rcases hev with rfl | ⟨e, rfl⟩ | ⟨e, rfl⟩ | rfl <;> cases h <;> exact ⟨rfl, rfl⟩

/-- A reset loads the shadow with what it leaves in the register (R342). -/
theorem hostEvent_reset_mdcr {ev : HostEvent} {s t : State} (h : hostEvent ev s = .next t)
    (hev : ∃ r, ev = .coldReset r ∨ ev = .warmReset r) : t.mdcrEff = t.mdcr := by
  obtain ⟨r, rfl | rfl⟩ := hev <;> cases h <;> rfl

/-- An event that neither resets nor synchronizes leaves the register and the shadow. -/
theorem hostEvent_other_mdcr {ev : HostEvent} {s t : State} (h : hostEvent ev s = .next t)
    (hev : ev = .debugEntry ∨ (∃ q, ev = .query q) ∨ (∃ x, ev = .traceData x ∨ ev = .profilingData x) ∨
      ∃ x f pc, ev = .hostRegisters x f pc) : t.mdcr = s.mdcr ∧ t.mdcrEff = s.mdcrEff := by
  rcases hev with rfl | ⟨q, rfl⟩ | ⟨x, rfl | rfl⟩ | ⟨x, f, pc, rfl⟩ <;> cases h <;> exact ⟨rfl, rfl⟩

theorem hostEvent_inputs_mdcr {env : Env} {s t : State} (h : hostEvent (.inputs env) s = .next t) :
    t.env = env ∧ t.mdcr = s.mdcr ∧
      t.mdcrEff = if s.env.halted = true ∧ env.halted = false then s.mdcr else s.mdcrEff := by
  cases h
  exact ⟨s.setInputs_env env, s.setInputs_mdcr env, s.setInputs_mdcrEff_eq env⟩

/-- Settles O22: the view reads the value in force, and each event does to the shadow what its class says. -/
theorem indirectReadersFollowTheSyncModel : Obligations.IndirectReadersFollowTheSyncModel := by
  unfold Obligations.IndirectReadersFollowTheSyncModel
  refine ⟨fun s => ?view, fun s q => rfl, fun n s t => exec_msr_next_sync, fun s t ev h => ?event⟩
  case view =>
    exact ⟨State.inForce_of_immediate, fun _ => s.inForce_cases.symm.imp And.right id,
      State.inForce_of_mdcrEff_eq, rfl, rfl, rfl, rfl, s.seen_defined s.inForce, s.seen_stable s.inForce⟩
  case event =>
    refine ⟨hostEvent_contextSync_mdcr h, hostEvent_reset_mdcr h, fun env hev => ?_, hostEvent_other_mdcr h⟩
    subst hev
    exact hostEvent_inputs_mdcr h

end Sys2Proof.Machine
end

section
/-! PROOFS. Encoding (O1, O2, O3) and where the accessors are UNDEFINED (O9): a word is its fixed bits and its `Rt`, so
decoding has one inverse. -/

namespace Sys2Proof

open Machine

/-! ## The two halves of an instruction's word (R122, R123) -/

/-- The fixed bits of an instruction's word (R123). -/
def Instr.fixedBits : Instr → InsnWord
  | .mrs _ => mrsMatch
  | .msr _ => msrMatch

/-- The operand field of an instruction (R124). -/
def Instr.rt : Instr → BitVec 5
  | .mrs t => t
  | .msr t => t

/-- The mask of R123 leaves out the operand field and nothing else. -/
theorem getElem_accessorMask : ∀ (k : Nat) (h : k < 32), accessorMask[k] = decide (5 ≤ k) := by decide

/-- A word is its fixed bits and its operand field together. -/
theorem and_accessorMask_or_rtOf (w : InsnWord) : (w &&& accessorMask) ||| (rtOf w).setWidth 32 = w := by
  ext k hk
  by_cases h : k < 5
  · simp [getElem_accessorMask, rtOf, h, BitVec.getLsbD_eq_getElem hk]
  · simp [getElem_accessorMask, rtOf, Nat.le_of_not_lt h]

/-- Two words with the same fixed bits and the same operand field are one word. -/
theorem eq_of_and_accessorMask_of_rtOf {w v : InsnWord} (hfixed : w &&& accessorMask = v &&& accessorMask)
    (hrt : rtOf w = rtOf v) : w = v := by
  rw [← and_accessorMask_or_rtOf w, hfixed, hrt, and_accessorMask_or_rtOf]

/-! ## Decoding a word (R123) -/

theorem mrsMatch_ne_msrMatch : mrsMatch ≠ msrMatch := by decide

theorem decodeWord_of_mrsMatch {w : InsnWord} (h : w &&& accessorMask = mrsMatch) :
    decodeWord w = .ok (.mrs (rtOf w)) := by
  simp [decodeWord, h]

theorem decodeWord_of_msrMatch {w : InsnWord} (h : w &&& accessorMask = msrMatch) :
    decodeWord w = .ok (.msr (rtOf w)) := by
  simp [decodeWord, h, mrsMatch_ne_msrMatch.symm]

theorem decodeWord_of_noMatch {w : InsnWord} (hmrs : w &&& accessorMask ≠ mrsMatch)
    (hmsr : w &&& accessorMask ≠ msrMatch) : decodeWord w = .error .outsideSpec := by
  simp [decodeWord, hmrs, hmsr]

/-- A word decodes to an instruction exactly when it has its fixed bits and its operand field. -/
theorem decodeWord_eq_ok {w : InsnWord} {i : Instr} :
    decodeWord w = .ok i ↔ w &&& accessorMask = i.fixedBits ∧ rtOf w = i.rt := by
  by_cases hmrs : w &&& accessorMask = mrsMatch
  · rw [decodeWord_of_mrsMatch hmrs, hmrs]
    cases i <;> simp [Instr.fixedBits, Instr.rt, mrsMatch_ne_msrMatch]
  · by_cases hmsr : w &&& accessorMask = msrMatch
    · rw [decodeWord_of_msrMatch hmsr, hmsr]
      cases i <;> simp [Instr.fixedBits, Instr.rt, mrsMatch_ne_msrMatch.symm]
    · rw [decodeWord_of_noMatch hmrs hmsr]
      cases i <;> simp [Instr.fixedBits, hmrs, hmsr]

/-- Every word but the two patterns is refused. -/
theorem decodeWord_eq_outsideSpec {w : InsnWord} :
    decodeWord w = .error .outsideSpec ↔ w &&& accessorMask ≠ mrsMatch ∧ w &&& accessorMask ≠ msrMatch := by
  constructor
  · intro h
    refine ⟨fun hmrs => ?_, fun hmsr => ?_⟩
    · rw [decodeWord_of_mrsMatch hmrs] at h; cases h
    · rw [decodeWord_of_msrMatch hmsr] at h; cases h
  · rintro ⟨hmrs, hmsr⟩
    exact decodeWord_of_noMatch hmrs hmsr

/-! ## The word of an instruction (R122) -/

theorem encode_and_accessorMask (i : Instr) : encode i &&& accessorMask = i.fixedBits :=
  (decodeWord_eq_ok.1 (decodeWord_encode i)).1

theorem rtOf_encode (i : Instr) : rtOf (encode i) = i.rt :=
  (decodeWord_eq_ok.1 (decodeWord_encode i)).2

theorem encode_eq_fixedBits_or_rt (i : Instr) : encode i = i.fixedBits ||| i.rt.setWidth 32 := by
  rw [← encode_and_accessorMask, ← rtOf_encode, and_accessorMask_or_rtOf]

/-- Decoding a word has one inverse. -/
theorem decodeWord_eq_ok_iff_eq_encode {w : InsnWord} {i : Instr} : decodeWord w = .ok i ↔ w = encode i := by
  constructor
  · intro h
    obtain ⟨hfixed, hrt⟩ := decodeWord_eq_ok.1 h
    exact eq_of_and_accessorMask_of_rtOf (hfixed.trans (encode_and_accessorMask i).symm)
      (hrt.trans (rtOf_encode i).symm)
  · rintro rfl
    exact decodeWord_encode i

/-- A field that the mask of R123 covers is a field of the fixed bits. -/
theorem extractLsb'_encode (i : Instr) {k n : Nat} (h : accessorMask.extractLsb' k n = BitVec.allOnes n) :
    (encode i).extractLsb' k n = i.fixedBits.extractLsb' k n := by
  rw [← encode_and_accessorMask, BitVec.extractLsb'_and, h, BitVec.and_allOnes]

/-- A field that the mask covers and the two patterns share is a field of every instruction's word. -/
theorem extractLsb'_encode_of_shared (i : Instr) {k n : Nat} {v : BitVec n}
    (h : accessorMask.extractLsb' k n = BitVec.allOnes n ∧ mrsMatch.extractLsb' k n = v ∧
      msrMatch.extractLsb' k n = v) : (encode i).extractLsb' k n = v := by
  obtain ⟨hmask, hmrs, hmsr⟩ := h
  rw [extractLsb'_encode i hmask]
  cases i with
  | mrs t => exact hmrs
  | msr t => exact hmsr

/-! ## Bytes (R105) -/

/-- Appending is adding at a higher weight. -/
theorem toNat_append_eq_add {m n : Nat} (v : BitVec m) (w : BitVec n) :
    (v ++ w).toNat = 2 ^ n * v.toNat + w.toNat := by
  rw [BitVec.toNat_append, Nat.shiftLeft_eq, mul_comm, Nat.two_pow_add_eq_or_of_lt w.isLt]

/-- Ascending bytes are digits of rising weight. -/
theorem toNat_wordOfBytes (b0 b1 b2 b3 : Byte) :
    (wordOfBytes b0 b1 b2 b3).toNat =
      b0.toNat + 2 ^ 8 * b1.toNat + 2 ^ 16 * b2.toNat + 2 ^ 24 * b3.toNat := by
  simp only [wordOfBytes, toNat_append_eq_add]
  omega

/-- A word that four bytes make has these bytes. -/
theorem bytesOfWord_wordOfBytes (b0 b1 b2 b3 : Byte) : bytesOfWord (wordOfBytes b0 b1 b2 b3) = [b0, b1, b2, b3] := by
  simp only [bytesOfWord, List.cons.injEq, and_true]
  refine ⟨?_, ?_, ?_, ?_⟩ <;> apply BitVec.eq_of_toNat_eq <;>
    simp only [BitVec.extractLsb'_toNat, toNat_wordOfBytes, Nat.shiftRight_eq_div_pow] <;> omega

/-- A word has four given bytes exactly when it is the word they make. -/
theorem bytesOfWord_eq_iff {w : InsnWord} {b0 b1 b2 b3 : Byte} :
    bytesOfWord w = [b0, b1, b2, b3] ↔ w = wordOfBytes b0 b1 b2 b3 := by
  constructor
  · intro h
    simp only [bytesOfWord, List.cons.injEq, and_true] at h
    obtain ⟨rfl, rfl, rfl, rfl⟩ := h
    exact (wordOfBytes_extractLsb' w).symm
  · rintro rfl
    exact bytesOfWord_wordOfBytes b0 b1 b2 b3

/-- A word is told by its number. -/
theorem eq_wordOfBytes_iff {b0 b1 b2 b3 : Byte} {w : InsnWord} :
    w = wordOfBytes b0 b1 b2 b3 ↔
      w.toNat = b0.toNat + 2 ^ 8 * b1.toNat + 2 ^ 16 * b2.toNat + 2 ^ 24 * b3.toNat := by
  rw [← toNat_wordOfBytes, BitVec.toNat_inj]

/-- Four bytes decode as the word they make does. -/
theorem decode_cons_eq_ok {b0 b1 b2 b3 : Byte} {rest : List Byte} {i : Instr} :
    decode (b0 :: b1 :: b2 :: b3 :: rest) = .ok (i, rest) ↔ decodeWord (wordOfBytes b0 b1 b2 b3) = .ok i := by
  rw [decode]
  cases decodeWord (wordOfBytes b0 b1 b2 b3) <;> simp

/-- The table's numbering of all 32 bits of a word reads as the word does. -/
theorem decodeTableWord_toNat {w : InsnWord} {i : Instr} (h : decodeWord w = .ok i) :
    decodeTableWord 32 w.toNat = some i := by
  have hd : decode (bytesOfWord w) = .ok (i, []) := decode_bytesOfWord_append h []
  rw [decodeTableWord, Nat.mod_eq_of_lt w.isLt, BitVec.ofNat_toNat, BitVec.setWidth_eq, hd]

/-! ## The UNDEFINED cases (R125) -/

/-- The two checks of an accessor fail in R125's four cases. -/
theorem accessorDefined_eq_false {s : State} :
    s.accessorDefined = false ↔ registerExists s.cfg = false ∨ s.el = .EL0 ∨ s.el = .EL1 ∨ s.el = .EL2 := by
  rw [State.accessorDefined, State.atEL3, Bool.and_eq_false_iff]
  cases s.el <;> simp

/-! ## The statements -/

/-- Settles O1: `encode` is the one inverse of decoding a word, and bytes are taken to the word they make. -/
theorem decodeAndEncodeAgree : Obligations.DecodeAndEncodeAgree := by
  unfold Obligations.DecodeAndEncodeAgree
  refine ⟨fun i _ => ⟨?roundTrip, ?word, ?table⟩, fun w b0 b1 b2 b3 => ?bytes, fun b0 b1 b2 b3 rest i => ?decode⟩
  case roundTrip => exact decode_bytesOfWord_append (decodeWord_encode i)
  case word => exact fun w => decodeWord_eq_ok_iff_eq_encode
  case table => exact decodeTableWord_toNat (decodeWord_encode i)
  case bytes => rw [bytesOfWord_eq_iff, eq_wordOfBytes_iff]
  case decode => rw [decode_cons_eq_ok, decodeWord_eq_ok_iff_eq_encode, eq_comm, eq_wordOfBytes_iff]

/-- Settles O2: decoding asks for the fixed bits and `Rt`, and every other field of R122 lies within the fixed bits. -/
theorem decodesExactlyTheTwoPatterns : Obligations.DecodesExactlyTheTwoPatterns := by
  unfold Obligations.DecodesExactlyTheTwoPatterns
  refine ⟨fun w t => ?decodes, fun w => decodeWord_eq_outsideSpec, by decide, fun i => ?format, fun t => ?values⟩
  case decodes =>
    exact ⟨decodeWord_eq_ok.trans (and_congr_right' eq_comm), decodeWord_eq_ok.trans (and_congr_right' eq_comm)⟩
  case format =>
    exact ⟨extractLsb'_encode_of_shared i (by decide), extractLsb'_encode_of_shared i (by decide),
      extractLsb'_encode_of_shared i (by decide), extractLsb'_encode_of_shared i (by decide),
      extractLsb'_encode_of_shared i (by decide), extractLsb'_encode_of_shared i (by decide)⟩
  case values =>
    have hmask : accessorMask.extractLsb' 21 1 = BitVec.allOnes 1 := by decide
    have hread : mrsMatch.extractLsb' 21 1 = 1 := by decide
    have hwrite : msrMatch.extractLsb' 21 1 = 0 := by decide
    exact ⟨(extractLsb'_encode (.mrs t) hmask).trans hread, rtOf_encode (.mrs t),
      (extractLsb'_encode (.msr t) hmask).trans hwrite, rtOf_encode (.msr t),
      encode_eq_fixedBits_or_rt (.mrs t), encode_eq_fixedBits_or_rt (.msr t)⟩

/-- Settles O9: an accessor raises UNDEFINED exactly when one of its two checks fails. -/
theorem accessorsUndefinedExactlyBelowEL3 : Obligations.AccessorsUndefinedExactlyBelowEL3 := by
  unfold Obligations.AccessorsUndefinedExactlyBelowEL3
  intro i s hpc
  have hchecks : exec i s = .fault .undefined ↔ s.accessorDefined = false := by simp [exec_eq_fault, hpc]
  exact hchecks.trans accessorDefined_eq_false

/-- Settles O3, by evaluating the decoder on the eight words. -/
theorem tableWordsDecode : Obligations.TableWordsDecode := by
  unfold Obligations.TableWordsDecode
  decide

end Sys2Proof
end

section
/-! PROOFS. The two accessors (O7, O8, O13, O14, O15) and what they do not depend on (O16, O21): a write keeps the
storable bits of its operand but for reserved encodings, and a read returns what is stored. -/

namespace Sys2Proof.Machine

/-! ## Bits within a mask -/

/-- A value with no bit outside a mask is the same under the mask. -/
theorem and_eq_self_of_and_not {v m : Word} (h : v &&& ~~~m = 0) : v &&& m = v := by
  have hsplit : v = (v &&& m) ||| (v &&& ~~~m) := by ext i hi; simp; grind
  rw [h] at hsplit
  exact (hsplit.trans BitVec.or_zero).symm

/-- The bits that a write drops are the RES0 bits that are not storage (R29). -/
theorem not_keepMask (c : Config) : ~~~keepMask c = res0Mask c &&& ~~~c.RES0_STORAGE_MASK := BitVec.not_or

/-! ## What a write stores (R29, R31, R141) -/

/-- Outside the fields to which a reserved encoding is written, the storable bits are stored as written. -/
theorem storedBits_and (c : Config) (k : Nat) (v : Word) :
    storedBits c k v &&& ~~~reservedMask c v = v &&& keepMask c &&& ~~~reservedMask c v := by
  rw [← reservedMask_and_keepMask c v]
  exact reservedReadback_and c k (v &&& keepMask c)

/-- Where nothing is redrawn, exactly the storable bits are stored. -/
theorem storedBits_eq {c : Config} {v : Word} (h : c.RESERVED_READBACK = .AsWritten ∨ reservedMask c v = 0)
    (k : Nat) : storedBits c k v = v &&& keepMask c := by
  rw [← reservedMask_and_keepMask c v] at h
  exact reservedReadback_eq c k (v &&& keepMask c) h

/-- A storable value without reserved encodings is stored as it is. -/
theorem storedBits_eq_self {c : Config} {v : Word} (hkeep : v &&& ~~~keepMask c = 0) (hres : reservedMask c v = 0)
    (k : Nat) : storedBits c k v = v := by
  rw [storedBits_eq (.inr hres), and_eq_self_of_and_not hkeep]

/-- A fully defined value has implemented bits only, and holds no reserved encoding (R77). -/
theorem fullyDefined_iff {c : Config} {v : Word} :
    fullyDefined c v = true ↔ v &&& ~~~implMask c = 0 ∧ reservedMask c v = 0 := by
  simp [fullyDefined, res0Mask]

/-- A fully defined value is stored as it is (R77, R141). -/
theorem storedBits_of_fullyDefined {c : Config} {v : Word} (h : fullyDefined c v = true) (k : Nat) :
    storedBits c k v = v := by
  obtain ⟨hres0, hres⟩ := fullyDefined_iff.1 h
  refine storedBits_eq_self ?_ hres k
  rw [not_keepMask, res0Mask, ← BitVec.and_assoc, hres0]
  exact BitVec.zero_and

theorem nextChoice_eq (old : Stored) (k : Nat) (bits : Word) :
    nextChoice old k bits = if fieldOf .PMEE old.bits = 2 ∧ fieldOf .PMEE bits = 2 then old.choice else k := by
  simp [nextChoice]

/-! ## The accessors' effects -/

/-- A write to X[t] changes nothing but the general registers; a write to XZR is discarded (R21). -/
theorem State.writeX_eq (s : State) (t : BitVec 5) (v : Word) :
    s.writeX t v = { s with x := if h : t.toNat < 31 then s.x.set t.toNat v h else s.x } := by
  unfold State.writeX; split <;> rfl

@[simp] theorem State.writeX_31 (s : State) (v : Word) : s.writeX 31 v = s := rfl

/-- After an `MRS` that completes, X[t] holds what the direct read gave (R140). -/
theorem readX_of_exec_mrs {t : BitVec 5} {s s' : State} (h : exec (.mrs t) s = .next s') (ht : t ≠ 31) :
    s'.readX t = s.readMDCR := by
  obtain ⟨-, rfl⟩ := exec_mrs_eq_next.1 h
  exact State.readX_of_x ht (s.writeX_x t s.readMDCR)

/-- What an `MSR` that completes leaves in the register (R141). -/
theorem mdcr_of_exec_msr {t : BitVec 5} {s s' : State} (h : exec (.msr t) s = .next s') :
    s'.mdcr.bits = storedBits s.cfg s.draws (s.readX t) ∧ s'.mdcr.unknown = 0 := by
  obtain ⟨-, -, rfl⟩ := exec_msr_eq_next.1 h
  exact ⟨rfl, rfl⟩

/-- A fully defined operand goes into the register as it is (R77, R141). -/
theorem mdcr_bits_of_fullyDefined {t : BitVec 5} {s s' : State} (h : exec (.msr t) s = .next s')
    (hdef : fullyDefined s.cfg (s.readX t) = true) : s'.mdcr.bits = s.readX t := by
  obtain ⟨hbits, -⟩ := mdcr_of_exec_msr h
  rw [hbits, storedBits_of_fullyDefined hdef]

/-- An `MSR` that completes leaves the parameters and the general registers. -/
theorem frame_of_exec_msr {t : BitVec 5} {s s' : State} (h : exec (.msr t) s = .next s') :
    s'.cfg = s.cfg ∧ s'.x = s.x := by
  obtain ⟨-, -, rfl⟩ := exec_msr_eq_next.1 h
  exact ⟨rfl, rfl⟩

/-- An `MRS` that completes leaves the parameters. -/
theorem cfg_of_exec_mrs {t : BitVec 5} {s s' : State} (h : exec (.mrs t) s = .next s') : s'.cfg = s.cfg := by
  obtain ⟨-, rfl⟩ := exec_mrs_eq_next.1 h
  simp

/-! ## Below EL3 (R125, R147, R317) -/

/-- An accessor whose checks fail is refused at the top of the address space and UNDEFINED elsewhere. -/
theorem exec_of_not_accessorDefined {s : State} (h : s.accessorDefined = false) (i : Instr) :
    exec i s = if s.pc = pcTop then .refused .pcWrap else .fault .undefined := by
  split
  case isTrue hpc => exact exec_eq_refused.2 ⟨hpc, rfl⟩
  case isFalse hpc => exact exec_eq_fault.2 ⟨hpc, .inl ⟨h, rfl⟩⟩

theorem accessorDefined_of_el_ne {s : State} (h : s.el ≠ .EL3) : s.accessorDefined = false := by
  simp [State.accessorDefined, State.atEL3, h]

/-- Outside the two places, what the host makes of an `Undefined` does not depend on what they hold (R301). -/
theorem handOver_undefined_blind (s : State) (m e : Stored) :
    mapNext State.blind ({ s with mdcr := m, mdcrEff := e }.handOver (.fault .undefined)) =
      mapNext State.blind (s.handOver (.fault .undefined)) := by
  rw [State.handOver_undefined, State.handOver_undefined]
  cases s.env.undefinedEntry <;> rfl

/-- Below EL3 neither the accessor nor its hand-over depends on the contents of the two places. -/
theorem handOver_exec_blind {s : State} (hel : s.el ≠ .EL3) (m e : Stored) (i : Instr) :
    mapNext State.blind ({ s with mdcr := m, mdcrEff := e }.handOver (exec i { s with mdcr := m, mdcrEff := e })) =
      mapNext State.blind (s.handOver (exec i s)) := by
  have hundef : s.accessorDefined = false := accessorDefined_of_el_ne hel
  rw [exec_of_not_accessorDefined (s := { s with mdcr := m, mdcrEff := e }) hundef,
    exec_of_not_accessorDefined hundef]
  split
  · rfl
  · exact handOver_undefined_blind s m e

/-- Settles O21: the fetch does not read the two places, so the same instruction runs, and below EL3 it learns
nothing of them. -/
theorem lowerLevelsLearnNothing : Obligations.LowerLevelsLearnNothing := by
  unfold Obligations.LowerLevelsLearnNothing
  intro s m e hin hel
  have hin' : { s with mdcr := m, mdcrEff := e }.inbox = [] := hin
  have hfetch : fetch { s with mdcr := m, mdcrEff := e } = fetch s := rfl
  cases hf : fetch s with
  | instr i =>
    rw [step_of_fetch_instr hin hf, step_of_fetch_instr hin' (hfetch.trans hf)]
    exact handOver_exec_blind hel m e i
  | fault r => rw [step_of_fetch_fault hin hf, step_of_fetch_fault hin' (hfetch.trans hf)]
  | refused r => rw [step_of_fetch_refused hin hf, step_of_fetch_refused hin' (hfetch.trans hf)]

/-! ## The whole effect of each accessor -/

/-- Settles O7: the value is the direct read's. -/
theorem mrsReadsTheRegister : Obligations.MrsReadsTheRegister := by
  unfold Obligations.MrsReadsTheRegister
  intro t s hready
  refine ⟨s.readMDCR, exec_mrs_eq_next.2 ⟨hready, ?_⟩, s.seen_stable s.mdcr, s.seen_defined s.mdcr⟩
  rw [State.writeX_eq]
  rfl

/-- Settles O8: the register takes what a write stores of X[t]. -/
theorem msrWritesTheRegister : Obligations.MsrWritesTheRegister := by
  unfold Obligations.MsrWritesTheRegister
  intro t s hready hlock
  refine ⟨(s.writeMDCR (s.readX t)).mdcr, exec_msr_eq_next.2 ⟨hready, hlock, rfl⟩, rfl, ⟨?_, ?_⟩,
    nextChoice_eq s.mdcr s.draws _⟩
  · exact reservedReadback_and s.cfg s.draws (s.readX t &&& keepMask s.cfg)
  · exact reservedReadback_eq s.cfg s.draws (s.readX t &&& keepMask s.cfg)

/-- Settles O15: XZR takes no write and reads 0, which holds only storable bits. -/
theorem zeroRegisterForms : Obligations.ZeroRegisterForms := by
  unfold Obligations.ZeroRegisterForms
  intro s hready
  have hkeep : (0 : Word) &&& keepMask s.cfg = 0 := BitVec.zero_and
  refine ⟨exec_mrs_eq_next.2 ⟨hready, (congrArg State.complete (s.writeX_31 s.readMDCR)).symm⟩, fun hlock =>
    ⟨storedBits s.cfg s.draws 0, nextChoice s.mdcr s.draws (storedBits s.cfg s.draws 0),
      exec_msr_eq_next.2 ⟨hready, hlock, rfl⟩, ?_, fun h => (storedBits_eq h s.draws).trans hkeep⟩⟩
  rw [storedBits_and, hkeep]
  exact BitVec.zero_and

/-! ## Reading and writing in turn (R142, R143) -/

/-- An `MRS` that completes after an `MSR` returns what that stored: no bit of it is UNKNOWN (R109, R343). -/
theorem readX_of_msr_mrs {a b : BitVec 5} {s s1 s2 s3 : State} (hw : exec (.msr a) s = .next s1)
    (hm : s2.mdcr = s1.mdcr) (hr : exec (.mrs b) s2 = .next s3) (hb : b ≠ 31) : s3.readX b = s1.mdcr.bits := by
  obtain ⟨-, hunk⟩ := mdcr_of_exec_msr hw
  rw [readX_of_exec_mrs hr hb, State.readMDCR, hm, State.seen_eq _ _ hunk]

theorem implMask_cfgAll : implMask cfgAll = 0x00FFFFFFDFFFFEDD := by decide +kernel

/-- Settles O13: the read returns the stored bits, of which the lemmas about `storedBits` give each clause. -/
theorem readAfterWriteReturnsTheFields : Obligations.ReadAfterWriteReturnsTheFields := by
  unfold Obligations.ReadAfterWriteReturnsTheFields
  refine ⟨fun a s s1 => mdcr_bits_of_fullyDefined, fun a b s s1 s2 s3 hw hm _ hr hb => ?_⟩
  have hread : s3.readX b = s1.mdcr.bits := readX_of_msr_mrs hw hm hr hb
  obtain ⟨hbits, -⟩ := mdcr_of_exec_msr hw
  refine ⟨hread, ?fields, ?res0, ?all⟩ <;> rw [hread]
  case fields =>
    intro f himpl hres
    rw [← holdsReserved_and_keepMask] at hres
    rw [hbits, fieldOf_storedBits s.cfg s.draws _ f himpl hres]
  case res0 => rw [hbits, BitVec.and_assoc, ← not_keepMask, storedBits_within]
  case all =>
    intro hcfg hdef
    obtain ⟨hres0, -⟩ := fullyDefined_iff.1 hdef
    rw [mdcr_bits_of_fullyDefined hw (hcfg ▸ hdef), ← implMask_cfgAll, and_eq_self_of_and_not hres0]

/-- Settles O14: the two writes of one operand differ in their draw only, and a value within the storable bits is
stored as it is. -/
theorem lastWriteWins : Obligations.LastWriteWins := by
  unfold Obligations.LastWriteWins
  refine ⟨fun a b s s1 s2 t h1 h2 ht => ?last, fun n s s1 s2 hn hstable hkept hres h1 h2 => ?back⟩
  case last =>
    obtain ⟨hcfg, hx⟩ := frame_of_exec_msr h1
    obtain ⟨hbits2, hunk2⟩ := mdcr_of_exec_msr h2
    obtain ⟨hbitst, hunkt⟩ := mdcr_of_exec_msr ht
    rw [hcfg, State.readX_congr hx] at hbits2
    rw [hbits2, hbitst]
    exact ⟨by rw [storedBits_and, storedBits_and], fun h => by rw [storedBits_eq h, storedBits_eq h],
      hunk2.trans hunkt.symm⟩
  case back =>
    obtain ⟨hwithin, -, -⟩ := hkept
    obtain ⟨hbits, -⟩ := mdcr_of_exec_msr h2
    have hread : s1.readX n = s.mdcr.bits := (readX_of_exec_mrs h1 hn).trans (s.seen_stable s.mdcr hstable)
    rw [hbits, hread, cfg_of_exec_mrs h1, storedBits_eq_self hwithin hres]

/-! ## Debug state and the Security state (R140, R148) -/

/-- The state in or out of Debug state, in a Security state. -/
def State.inDebugAndSecurity (s : State) (h : Bool) (ss : SecState) : State :=
  { s with env := { s.env with halted := h, ss := ss } }

/-- Reading MDCR_EL3, writing X[t] and completing see neither input. -/
theorem State.inDebugAndSecurity_mrs (s : State) (h : Bool) (ss : SecState) (n : BitVec 5) :
    (s.writeX n s.readMDCR).complete.inDebugAndSecurity h ss =
      ((s.inDebugAndSecurity h ss).writeX n (s.inDebugAndSecurity h ss).readMDCR).complete := by
  rw [State.writeX_eq, State.writeX_eq]
  rfl

/-- An accessor commutes with a change of the two inputs, outcome by outcome. -/
theorem exec_inDebugAndSecurity (i : Instr) (s : State) (h : Bool) (ss : SecState) :
    exec i (s.inDebugAndSecurity h ss) = mapNext (·.inDebugAndSecurity h ss) (exec i s) := by
  cases hout : exec i s with
  | next t =>
    cases i with
    | mrs n =>
      obtain ⟨hready, rfl⟩ := exec_mrs_eq_next.1 hout
      exact exec_mrs_eq_next.2 ⟨hready, s.inDebugAndSecurity_mrs h ss n⟩
    | msr n =>
      obtain ⟨hready, hlock, rfl⟩ := exec_msr_eq_next.1 hout
      exact exec_msr_eq_next.2 ⟨hready, hlock, rfl⟩
  | fault r =>
    have hcause := exec_eq_fault.1 hout
    exact exec_eq_fault.2 hcause
  | refused r =>
    have hcause := exec_eq_refused.1 hout
    exact exec_eq_refused.2 hcause

/-- Settles O16: the statement, with the change of the two inputs written out. -/
theorem accessorsIgnoreDebugAndSecurityState : Obligations.AccessorsIgnoreDebugAndSecurityState := by
  unfold Obligations.AccessorsIgnoreDebugAndSecurityState
  exact exec_inDebugAndSecurity

end Sys2Proof.Machine
end

section
/-! PROOFS. Traps of bits 63 to 32 (O27, O28, O50): the six enables with a stated EC have one shape, and the four
controls with an EC of D16 and SBRBE are conditions of their own. -/

namespace Sys2Proof.Machine

/-! ## Conditions of the trap controls -/

@[simp] theorem isMRSorMSR_iff (a : Access) : isMRSorMSR a = true ↔ a.instr = .MRS ∨ a.instr = .MSR := by
  simp [isMRSorMSR]

/-- The PMU Snapshot registers, with the one that FEAT_PMUv3_ICNTR adds (R168, R169). -/
theorem mem_snapshotRegs {n : RegName} {c : Config} :
    n ∈ snapshotRegs c ↔ n ∈ [RegName.PMCCNTSVR_EL1, .PMEVCNTSVRn_EL1, .PMSSCR_EL1] ∨
      (c.FEAT_PMUv3_ICNTR = true ∧ n = .PMICNTSVR_EL1) := by
  simp [snapshotRegs, or_assoc]

/-- The shape of the six enables with a stated EC: field 0, a move at EL2 or EL1, a listed register. -/
theorem trapWhen_enable (w : View) (a : Access) (f : Field) {l : List RegName} {p : Prop} [Decidable p]
    (hreg : a.reg.name ∈ l ↔ p) :
    trapWhen (w.isClear f && isA64Move a && a.reg.isIn l && atEL1or2 a) 0x18 =
      if w.value f = some 0 ∧ (isA64Move a && atEL1or2 a) = true ∧ p then some 0x18 else none := by
  refine trapWhen_eq 0x18 ?_
  rw [← hreg]
  simp only [Bool.and_eq_true, View.isClear_iff, isIn_iff]
  tauto

/-- NV1 and E2H are ignored for the status register of a buffer whose control is 0b00 (R162, R164). -/
theorem ignoresHcr_iff {w : View} {r : RegName} : ignoresHcr w r = true ↔
    (r = .TRBSR_EL1 ∧ w.value .TRBEE = some 0) ∨ (r = .PMBSR_EL1 ∧ w.value .PMSEE = some 0) := by
  simp [ignoresHcr, View.holds_iff]

theorem nv1For_iff {w : View} {r : RegName} :
    nv1For w r = true ↔ w.env.hcrNV1 = true ∧ ¬(ignoresHcr w r = true ∧ w.el = .EL1) := by
  simp only [nv1For, Bool.and_eq_true, Bool.not_eq_true', ← Bool.not_eq_true, beq_iff_eq]

theorem e2hFor_iff {w : View} {r : RegName} :
    e2hFor w r = true ↔ w.env.hcrE2H = true ∧ ¬(ignoresHcr w r = true ∧ w.el = .EL2) := by
  simp only [e2hFor, Bool.and_eq_true, Bool.not_eq_true', ← Bool.not_eq_true, beq_iff_eq]

/-! ## SBRBE by value (R180, R181) -/

/-- The values of SBRBE under which software's accesses trap (R180). -/
theorem sbrbe_traps_iff {w : View} {ss : SecState} :
    (w.has .SBRBE && (w.fld .SBRBE == 0 || w.fld .SBRBE == 2 || (w.fld .SBRBE == 1 && ss == .Secure))) = true ↔
      w.value .SBRBE = some 0 ∨ w.value .SBRBE = some 2 ∨ (w.value .SBRBE = some 1 ∧ ss = .Secure) := by
  cases hv : w.value .SBRBE with
  | none => simp [View.has_of_none hv]
  | some v => simp [View.has_of_value hv, View.fld_of_value hv, or_assoc]

/-- The values of SBRBE that make a state below EL3 a prohibited region (R181). -/
theorem sbrbeProhibited_of_ne_EL3 {w : View} {el : EL} {ss : SecState} (hel : el ≠ .EL3) :
    sbrbeProhibited w el ss = true ↔
      w.value .SBRBE = some 0 ∨ (w.value .SBRBE = some 1 ∧ ss = .Secure) := by
  cases hv : w.value .SBRBE with
  | none => simp [sbrbeProhibited, View.has_of_none hv]
  | some v => simp [sbrbeProhibited, View.has_of_value hv, View.fld_of_value hv, hel]

/-- Below EL3 the regions are SBRBE's alone (R181). -/
theorem branchProhibited_of_ne_EL3 {w : View} {el : EL} (hel : el ≠ .EL3) (ss : SecState) :
    branchProhibited w el ss = sbrbeProhibited w el ss := by
  simp [branchProhibited, hel]

/-! ## The statements -/

/-- Settles O27: each of the six is the shape of an enable, for its own registers. -/
theorem enableControlsTrapWhenZero : Obligations.EnableControlsTrapWhenZero := by
  unfold Obligations.EnableControlsTrapWhenZero
  exact ⟨rfl, fun w a => ⟨trapWhen_enable w a .EnPMS4 List.mem_singleton, trapWhen_enable w a .EnITE Iff.rfl,
    trapWhen_enable w a .EnPMSS mem_snapshotRegs, trapWhen_enable w a .EBWE List.mem_singleton,
    trapWhen_enable w a .EnPMS3 List.mem_singleton, trapWhen_enable w a .EnTB2 List.mem_singleton⟩⟩

/-- Settles O28: each trap by its condition, and the two HCR_EL2 bits by when they are ignored. -/
theorem controlsWithoutAStatedEC : Obligations.ControlsWithoutAStatedEC := by
  unfold Obligations.ControlsWithoutAStatedEC
  refine fun w a r => ⟨trapWhen_eq _ ?trbee, trapWhen_eq _ ?pmsee, trapWhen_eq _ ?enstepop, View.isClear_iff,
    trapWhen_eq _ ?enpmsn, ?nv1, ?e2h⟩
  case trbee => simp [View.holds_iff, and_assoc]
  case pmsee => simp [View.holds_iff, and_assoc]
  case enstepop => simp [and_assoc]
  case enpmsn => simp [and_assoc]
  case nv1 => rw [← ignoresHcr_iff]; exact nv1For_iff
  case e2h => rw [← ignoresHcr_iff]; exact e2hFor_iff

/-- Settles O50: the trap is the level, the access and the value of SBRBE together, and below EL3 the regions are
SBRBE's. -/
theorem branchRecordControlByValue : Obligations.BranchRecordControlByValue := by
  unfold Obligations.BranchRecordControlByValue
  refine fun w a => ⟨trapWhen_eq _ ?trap, fun el ss hel => ?region⟩
  case trap =>
    rw [← sbrbe_traps_iff]
    simp only [Bool.and_eq_true, Bool.or_eq_true, Bool.not_eq_true', isMRSorMSR_iff, isIn_iff, brbeRegs, beq_iff_eq,
      beq_eq_false_iff_ne]
    tauto
  case region => rw [branchProhibited_of_ne_EL3 hel, sbrbeProhibited_of_ne_EL3 hel]

end Sys2Proof.Machine
end

section
/-! PROOFS. External debugger accesses (O38, O39): ETBAD and EPMSSAD are one disable over two register sets, and no
prohibition reaches Root where the pairs of FEAT_RME are. -/

namespace Sys2Proof.Machine

/-! ## A two-bit disable without pair (R166, R168) -/

/-- The accesses that a two-bit disable stops by its value, whatever the register. -/
def View.Disables (w : View) (f : Field) (attr : SecState) : Prop :=
  (w.value f = some 0 ∧ (attr = .NonSecure ∨ (w.cfg.FEAT_RME = true ∧ (attr = .Secure ∨ attr = .Realm)))) ∨
  (w.value f = some 1 ∧ (attr = .Secure ∨ attr = .NonSecure)) ∨
  (w.value f = some 2 ∧ (attr = .Realm ∨ attr = .NonSecure))

theorem disableProhibits_iff {rme : Bool} {n : Word} {attr : SecState} :
    disableProhibits rme n attr = true ↔
      (n = 0 ∧ (attr = .NonSecure ∨ (rme = true ∧ (attr = .Secure ∨ attr = .Realm)))) ∨
      (n = 1 ∧ (attr = .Secure ∨ attr = .NonSecure)) ∨ (n = 2 ∧ (attr = .Realm ∨ attr = .NonSecure)) := by
  unfold disableProhibits
  split
  case isTrue h0 => rw [beq_iff_eq] at h0; simp [h0]
  case isFalse h0 =>
    rw [beq_iff_eq] at h0
    split
    case isTrue h1 => rw [beq_iff_eq] at h1; simp [h1]
    case isFalse h1 => rw [beq_iff_eq] at h1; simp_all

/-- No value stops a Root access. -/
theorem disableProhibits_root (rme : Bool) (n : Word) : disableProhibits rme n .Root = false := by
  simp [← Bool.not_eq_true, disableProhibits_iff]

/-- A value that is not reserved acts as it is. -/
theorem disableValue_of_defined {rme : Bool} {n : Word} (h : rme = true ∨ (n ≠ 1 ∧ n ≠ 2)) (zero : Bool) :
    disableValue rme zero n = n := by
  refine if_neg ?_
  rcases h with rfl | ⟨h1, h2⟩
  · simp
  · simpa [h1] using fun _ => ⟨h1, h2⟩

/-- A reserved one acts as 0b00 or as 0b11 (D23; log entry 21). -/
theorem disableValue_of_reserved {n : Word} (h : n = 1 ∨ n = 2) (zero : Bool) :
    disableValue false zero n = if zero then 0 else 3 := by
  rcases h with rfl | rfl <;> simp [disableValue]

/-- A disable without pair stops an access from this Security state to one of its registers; `zero` is the draw
of a reserved value. -/
def View.disableStops (w : View) (f : Field) (zero : Bool) (attr : SecState) : Bool :=
  w.has f && disableProhibits w.cfg.FEAT_RME (disableValue w.cfg.FEAT_RME zero (w.fld f)) attr

section Disable

variable {w : View} {f : Field}

/-- What it stops while its value is not reserved. -/
theorem disableStops_iff_of_defined (hf : w.cfg.FEAT_RME = true ∨ (w.value f ≠ some 1 ∧ w.value f ≠ some 2))
    (zero : Bool) (attr : SecState) : w.disableStops f zero attr = true ↔ w.Disables f attr := by
  cases hv : w.value f with
  | none => simp [View.disableStops, View.Disables, View.has_of_none hv, hv]
  | some n =>
    have hn : w.cfg.FEAT_RME = true ∨ (n ≠ 1 ∧ n ≠ 2) := by simpa [hv] using hf
    simp [View.disableStops, View.Disables, View.has_of_value hv, View.fld_of_value hv, hv,
      disableValue_of_defined hn, disableProhibits_iff]

/-- What it stops while its value is reserved: one draw settles it for every access. -/
theorem disableStops_of_reserved (hrme : w.cfg.FEAT_RME = false) (hf : w.value f = some 1 ∨ w.value f = some 2)
    (zero : Bool) :
    (∀ attr, w.disableStops f zero attr = true ↔ attr = .NonSecure) ∨
      (∀ attr, w.disableStops f zero attr = false) := by
  obtain ⟨n, hv, hn⟩ : ∃ n, w.value f = some n ∧ (n = 1 ∨ n = 2) := by
    rcases hf with hv | hv
    · exact ⟨1, hv, .inl rfl⟩
    · exact ⟨2, hv, .inr rfl⟩
  simp only [View.disableStops, View.has_of_value hv, View.fld_of_value hv, hrme, disableValue_of_reserved hn]
  cases zero with
  | true => exact .inl fun attr => by simp [disableProhibits]
  | false => exact .inr fun attr => by simp [disableProhibits]

theorem disableStops_root (zero : Bool) : w.disableStops f zero .Root = false := by
  simp [View.disableStops, disableProhibits_root]

end Disable

/-! ## ETBAD and EPMSSAD: the disable, and their registers -/

theorem etbadProhibits_iff {w : View} {e : ExtAccess} : etbadProhibits w e = true ↔
    e.reg ∈ w.cfg.traceBufferRegs ∧ w.disableStops .ETBAD (Config.freeEtbadZero w.k) e.attr = true := by
  simp only [etbadProhibits, View.disableStops, Bool.and_eq_true, List.contains_iff_mem]
  tauto

theorem epmssadProhibits_iff {w : View} {e : ExtAccess} : epmssadProhibits w e = true ↔
    (e.reg.name ∈ [RegName.PMCCNTSVR_EL1, .PMEVCNTSVRn_EL1, .PMSSCR_EL1] ∨
        (e.reg.name = .PMICNTSVR_EL1 ∧ w.cfg.FEAT_PMUv3_ICNTR = true)) ∧
      w.disableStops .EPMSSAD (Config.freeEpmssadZero w.k) e.attr = true := by
  rw [and_comm (a := e.reg.name = _), ← mem_snapshotRegs]
  simp only [epmssadProhibits, View.disableStops, Bool.and_eq_true, isIn_iff]
  tauto

theorem externalProhibited_iff {w : View} {e : ExtAccess} :
    externalProhibited w e = true ↔ etbadProhibits w e = true ∨ epmssadProhibits w e = true ∨
      etadProhibits w e = true ∨ epmadProhibits w e = true ∨ edadProhibits w e = true := by
  simp [externalProhibited, or_assoc]

/-- Settles O38: by value while it is not reserved; a reserved value acts by one draw of the evaluation. -/
theorem externalBufferDisablesByValue : Obligations.ExternalBufferDisablesByValue := by
  unfold Obligations.ExternalBufferDisablesByValue
  refine fun w e => ⟨fun hdef => ?etbad, fun hrme hres => ?etbadReserved, fun hdef => ?epmssad,
    fun hrme hres => ?epmssadReserved, externalProhibited_iff⟩
  case etbad => exact etbadProhibits_iff.trans (and_congr_right' (disableStops_iff_of_defined hdef _ _))
  case epmssad => exact epmssadProhibits_iff.trans (and_congr_right' (disableStops_iff_of_defined hdef _ _))
  case etbadReserved =>
    exact (disableStops_of_reserved hrme hres _).imp (fun h d => etbadProhibits_iff.trans (and_congr_right' (h d.attr)))
      (fun h d => by rw [← Bool.not_eq_true, etbadProhibits_iff, h]; simp)
  case epmssadReserved =>
    exact (disableStops_of_reserved hrme hres _).imp
      (fun h d => epmssadProhibits_iff.trans (and_congr_right' (h d.attr)))
      (fun h d => by rw [← Bool.not_eq_true, epmssadProhibits_iff, h]; simp)

/-! ## Root (R322) -/

section Root

variable {w : View} {e : ExtAccess}

/-- The pair of an ...ADE and an ...AD bit stops no Root access (R210). -/
theorem xadProhibits_root (E D : Bool) : xadProhibits E D .Root = false := by simp [xadProhibits]

/-- With FEAT_RME the disables that are not pairs are not selected (R210, R213). -/
theorem variant_ETAD_of_RME {c : Config} (h : c.FEAT_RME = true) : variant c .ETAD = 1 ∨ variant c .ETAD = 0 := by
  cases hx : c.FEAT_TRC_EXT && c.FEAT_TRBE <;> simp_all [variant]

theorem variant_EPMAD_of_RME {c : Config} (h : c.FEAT_RME = true) :
    variant c .EPMAD = 1 ∨ variant c .EPMAD = 0 := by
  cases hx : c.FEAT_PMUv3_EXT <;> simp [variant, h, hx]

theorem etbadProhibits_root (ha : e.attr = .Root) : etbadProhibits w e = false := by
  rw [← Bool.not_eq_true, etbadProhibits_iff, ha, disableStops_root]
  simp

theorem epmssadProhibits_root (ha : e.attr = .Root) : epmssadProhibits w e = false := by
  rw [← Bool.not_eq_true, epmssadProhibits_iff, ha, disableStops_root]
  simp

theorem etadProhibits_root (hrme : w.cfg.FEAT_RME = true) (ha : e.attr = .Root) : etadProhibits w e = false := by
  rcases variant_ETAD_of_RME hrme with hv | hv <;> simp [etadProhibits, hv, ha, xadProhibits_root]

theorem epmadProhibits_root (hrme : w.cfg.FEAT_RME = true) (ha : e.attr = .Root) : epmadProhibits w e = false := by
  rcases variant_EPMAD_of_RME hrme with hv | hv <;> simp [epmadProhibits, hv, ha, xadProhibits_root]

theorem edadProhibits_root (hrme : w.cfg.FEAT_RME = true) (ha : e.attr = .Root) : edadProhibits w e = false := by
  simp [edadProhibits, variant_EDAD_eq_one.2 hrme, ha, xadProhibits_root]

end Root

/-- Settles O39, control by control. -/
theorem rootAccessesAreNeverProhibited : Obligations.RootAccessesAreNeverProhibited := by
  unfold Obligations.RootAccessesAreNeverProhibited
  intro w e hrme ha
  simp [externalProhibited, etbadProhibits_root ha, epmssadProhibits_root ha, etadProhibits_root hrme ha,
    epmadProhibits_root hrme ha, edadProhibits_root hrme ha]

end Sys2Proof.Machine
end

section
/-! PROOFS. The performance monitors (O42, O45): the four counting prohibitions as conditions, SPME by FEAT_PMUv3p7,
and PMEE by value. -/

namespace Sys2Proof.Machine

/-! ## The counting prohibitions (R178, R179, R209, R223 to R225, R319) -/

section Counting

variable {w : View} {c : Counter}

theorem countingProhibited_iff : countingProhibited w c = true ↔ mpmxProhibits w c = true ∨
    mccdProhibits w c = true ∨ sccdProhibits w c = true ∨ spmeProhibits w c = true := by
  simp [countingProhibited, or_assoc]

theorem mpmxProhibits_iff : mpmxProhibits w c = true ↔
    w.value .MPMX = some 1 ∧ w.el = .EL3 ∧ mpmxAffects w c = true := by
  simp [mpmxProhibits, and_assoc]

theorem mccdProhibits_iff : mccdProhibits w c = true ↔ c = .PMCCNTR ∧ w.value .MCCD = some 1 ∧ w.el = .EL3 := by
  simp [mccdProhibits, and_assoc]

theorem sccdProhibits_iff : sccdProhibits w c = true ↔
    c = .PMCCNTR ∧ w.value .SCCD = some 1 ∧ (w.env.ss = .Secure ∨ w.el = .EL3) := by
  simp [sccdProhibits, and_assoc]

/-- Of a register that exists an implemented field acts with its stored bits (R26). -/
theorem View.value_of_exists_of_impl {f : Field} (hx : registerExists w.cfg = true) (hf : impl w.cfg f = true) :
    w.value f = some (fieldOf f w.bits) := by
  rw [View.value_of_exists hx, if_pos hf]

/-- Beside a field that acts as 0 every implemented one acts: the register exists. -/
theorem View.fld_eq_zero_iff_of_value_zero {f g : Field} (hf : w.value f = some 0) (hg : impl w.cfg g = true) :
    w.fld g = 0 ↔ w.value g = some 0 := by
  have hv : w.value g = some (fieldOf g w.bits) :=
    View.value_of_exists_of_impl (View.exists_of_value_zero hf) hg
  rw [View.fld_of_value hv, hv, Option.some_inj]

/-- SPME other than 0 prohibits nothing, whatever its variant. -/
theorem spmeProhibits_of_ne_zero (h : w.value .SPME ≠ some 0) : spmeProhibits w c = false := by
  have hclear : w.isClear .SPME = false := by rwa [Bool.eq_false_iff, ne_eq, View.isClear_iff]
  unfold spmeProhibits
  split <;> simp [hclear]

/-- SPME of variant 1 (R223). -/
theorem spmeProhibits_iff_of_PMUv3p7 (hp : w.cfg.FEAT_PMUv3p7 = true) : spmeProhibits w c = true ↔
    w.value .MPMX = some 0 ∧ w.value .SPME = some 0 ∧ (w.env.ss = .Secure ∨ w.el = .EL3) ∧
      spmeAffects w c = true := by
  by_cases h : w.value .SPME = some 0
  · have hpmu : w.cfg.FEAT_PMUv3 = true := View.impl_of_value h
    have hvar : variant w.cfg .SPME = 1 := by simp [variant, hpmu, hp]
    rw [← View.fld_eq_zero_iff_of_value_zero (g := .MPMX) h hp]
    simp [spmeProhibits, hvar, h, and_assoc]
  · simp only [spmeProhibits_of_ne_zero h, h, false_and, and_false, Bool.false_eq_true]

/-- SPME of variants 2 and 3 (R224, R225). -/
theorem spmeProhibits_iff_of_not_PMUv3p7 (hp : w.cfg.FEAT_PMUv3p7 = false) : spmeProhibits w c = true ↔
    w.value .SPME = some 0 ∧ w.env.ss = .Secure ∧
      (w.cfg.FEAT_Debugv8p2 = true ∨ w.env.extSecureNoninvasive = false) ∧ spmeOldAffects w c = true := by
  by_cases h : w.value .SPME = some 0
  · have hpmu : w.cfg.FEAT_PMUv3 = true := View.impl_of_value h
    cases hd : w.cfg.FEAT_Debugv8p2 with
    | true =>
      have hvar : variant w.cfg .SPME = 2 := by simp [variant, hpmu, hp, hd]
      simp [spmeProhibits, hvar, h]
    | false =>
      have hvar : variant w.cfg .SPME = 3 := by simp [variant, hpmu, hp, hd]
      simp [spmeProhibits, hvar, h, and_assoc, and_left_comm]
  · simp only [spmeProhibits_of_ne_zero h, h, false_and, Bool.false_eq_true]

end Counting

/-- Settles O42: the four prohibitions of each counter, SPME by FEAT_PMUv3p7. -/
theorem cycleCounterProhibitions : Obligations.CycleCounterProhibitions := by
  unfold Obligations.CycleCounterProhibitions
  intro w
  refine ⟨?cycle, ?instruction⟩ <;>
    simp only [countingProhibited_iff, mpmxProhibits_iff, mccdProhibits_iff, sccdProhibits_iff, mpmxAffects]
  case cycle =>
    cases hp : w.cfg.FEAT_PMUv3p7 with
    | true => simp only [spmeProhibits_iff_of_PMUv3p7 hp, spmeAffects, reduceCtorEq]; tauto
    | false => simp only [spmeProhibits_iff_of_not_PMUv3p7 hp, spmeOldAffects, reduceCtorEq]; tauto
  case instruction =>
    cases hp : w.cfg.FEAT_PMUv3p7 with
    | true => simp only [spmeProhibits_iff_of_PMUv3p7 hp, spmeAffects, reduceCtorEq]; tauto
    | false => simp only [spmeProhibits_iff_of_not_PMUv3p7 hp, spmeOldAffects, reduceCtorEq]; tauto

/-! ## PMEE (R174) -/

theorem pmeeMode_of_none {w : View} (h : w.value .PMEE = none) : pmeeMode w = none := by
  simp [pmeeMode, View.has_of_none h]

/-- The mode of each value; that of 0b10 is free, by the draw beside the register (D24). -/
theorem pmeeMode_of_value {w : View} {v : Word} (h : w.value .PMEE = some v) :
    pmeeMode w = some (if v = 0 then .irqOnOverflow else if v = 1 then .byEL2
      else if v = 2 then Config.freePmee w.choice else .exceptionEnabled) := by
  unfold pmeeMode
  rw [View.has_of_value h, View.fld_of_value h]
  simp only [beq_iff_eq, apply_ite some]
  rfl

/-- What each mode makes of PMUIRQ and of the PMU Profiling exception (R174, R312). -/
theorem pmu_of_irqOnOverflow {w : View} (h : pmeeMode w = some .irqOnOverflow) :
    pmuIrq w = some w.env.pmuOverflow ∧ pmuException w = some false := by
  simp [pmuIrq, pmuException, h]

theorem pmu_of_byEL2 {w : View} (h : pmeeMode w = some .byEL2) :
    pmuIrq w = some w.env.el2PmuIrq ∧ pmuException w = some w.env.el2PmuException := by
  simp [pmuIrq, pmuException, h]

theorem pmu_of_exceptionEnabled {w : View} (h : pmeeMode w = some .exceptionEnabled) :
    pmuIrq w = some false ∧ pmuException w = some true := by
  simp [pmuIrq, pmuException, h]

theorem pmu_of_none {w : View} (h : pmeeMode w = none) : pmuIrq w = none ∧ pmuException w = none := by
  simp [pmuIrq, pmuException, h]

/-- Views that hold the reserved value under one draw act in one mode. -/
theorem pmeeMode_of_reserved {w : View} {k : Nat} {m : PmeeMode} (hm : Config.freePmee k = m)
    (h : w.value .PMEE = some 2) (hk : w.choice = k) : pmeeMode w = some m := by
  rw [pmeeMode_of_value h, hk, hm]
  rfl

/-- Settles O45: the three defined values, one mode for the reserved value under each draw, and the draw kept. -/
theorem pmuInterruptFollowsPMEE : Obligations.PmuInterruptFollowsPMEE := by
  unfold Obligations.PmuInterruptFollowsPMEE
  refine ⟨fun w => ⟨fun h => pmu_of_none (pmeeMode_of_none h), fun h => pmu_of_irqOnOverflow (pmeeMode_of_value h),
    fun h => pmu_of_byEL2 (pmeeMode_of_value h), fun h => pmu_of_exceptionEnabled (pmeeMode_of_value h)⟩,
    fun k => ?reserved, fun n s t hexec hold hnew => ?kept⟩
  case reserved =>
    cases hm : Config.freePmee k with
    | irqOnOverflow => exact .inl fun w h hk => Prod.ext_iff.2 (pmu_of_irqOnOverflow (pmeeMode_of_reserved hm h hk))
    | byEL2 => exact .inr (.inl fun w h hk => Prod.ext_iff.2 (pmu_of_byEL2 (pmeeMode_of_reserved hm h hk)))
    | exceptionEnabled =>
      exact .inr (.inr fun w h hk => Prod.ext_iff.2 (pmu_of_exceptionEnabled (pmeeMode_of_reserved hm h hk)))
  case kept =>
    obtain ⟨-, -, rfl⟩ := exec_msr_eq_next.1 hexec
    exact (nextChoice_eq _ _ _).trans (if_pos ⟨hold, hnew⟩)

end Sys2Proof.Machine
end

section
/-! PROOFS. Buffer events at EL3 (O48), branch recording at EL3 (O49) and the breakpoint banks (O52): an exception
enable by the code of its meaning, and what each reset leaves of a field. -/

namespace Sys2Proof.Machine

/-! ## TRBEE and PMSEE by the code of their meaning (R161, R163) -/

/-- The value of TRBEE or PMSEE that has each meaning. -/
def ExcEnable.code : ExcEnable → Word
  | .Disabled => 0
  | .Delegated => 1
  | .Enabled => 2
  | .TrapAll => 3

/-- The four codes are the four values of a two-bit field. -/
theorem excEnable_eq_iff {n : Word} (h : n = 0 ∨ n = 1 ∨ n = 2 ∨ n = 3) (m : ExcEnable) :
    excEnable n = m ↔ n = m.code := by
  rcases h with rfl | rfl | rfl | rfl <;> cases m <;> decide

/-- A two-bit exception enable means `m` exactly when it acts with the code of `m`. -/
theorem excMode_eq_some_iff {w : View} {f : Field} (hf : fieldWidth f = 2) (m : ExcEnable) :
    (if w.has f then some (excEnable (w.fld f)) else none) = some m ↔ w.value f = some m.code := by
  cases hv : w.value f with
  | none => simp [View.has_of_none hv]
  | some n =>
    have hn : n = 0 ∨ n = 1 ∨ n = 2 ∨ n = 3 := by simpa [hv] using View.value_cases_two (w := w) hf
    simp [View.has_of_value hv, View.fld_of_value hv, excEnable_eq_iff hn]

theorem trbeMode_eq_some_iff {w : View} (m : ExcEnable) : trbeMode w = some m ↔ w.value .TRBEE = some m.code :=
  excMode_eq_some_iff rfl m

theorem speMode_eq_some_iff {w : View} (m : ExcEnable) : speMode w = some m ↔ w.value .PMSEE = some m.code :=
  excMode_eq_some_iff rfl m

/-- Under 0b11 every event is recorded at EL3, under 0b10 those that target EL3 (R161, R163). -/
theorem recordedAtEL3_iff {env : Env} {m : Option ExcEnable} {c : EventCause} :
    recordedAtEL3 env m c = true ↔ m = some .TrapAll ∨ (m = some .Enabled ∧
      (c = .gpcFaultOtherThanGPF ∨ (c = .GPF ∧ env.scrGPF = true) ∨ (c = .externalAbort ∧ env.scrEA = true))) := by
  rcases m with _ | (_ | _ | _ | _)
  case some.Enabled => cases c <;> simp [recordedAtEL3]
  all_goals simp [recordedAtEL3]

theorem enabledAtEL3_iff {m : Option ExcEnable} :
    enabledAtEL3 m = true ↔ m = some .Enabled ∨ m = some .TrapAll := by
  simp [enabledAtEL3]

/-- Settles O48: each answer is a question about the mode, and the mode one about the value. -/
theorem bufferEventsAtEL3 : Obligations.BufferEventsAtEL3 := by
  unfold Obligations.BufferEventsAtEL3
  refine fun w c => ⟨?_, ?_, ?_, ?_, ?_, ?_, ?_, ?_⟩
  · simp only [trbRecorded, recordedAtEL3_iff, trbeMode_eq_some_iff, ExcEnable.code]
  · simp only [trbeException, Bool.and_eq_true, enabledAtEL3_iff, trbeMode_eq_some_iff, ExcEnable.code, and_assoc]
  · simp only [trbeDelegate, beq_iff_eq, trbeMode_eq_some_iff, ExcEnable.code]
  · simp only [trbIrq, beq_iff_eq, trbeMode_eq_some_iff, ExcEnable.code]
  · simp only [pmbRecorded, recordedAtEL3_iff, speMode_eq_some_iff, ExcEnable.code]
  · simp only [speException, Bool.and_eq_true, enabledAtEL3_iff, speMode_eq_some_iff, ExcEnable.code, and_assoc]
  · simp only [speDelegate, beq_iff_eq, speMode_eq_some_iff, ExcEnable.code]
  · simp only [pmbIrq, beq_iff_eq, speMode_eq_some_iff, ExcEnable.code]

/-! ## What a reset leaves of an implemented field (R75, R342) -/

section Reset

variable {c : Config} {f : Field}

/-- A Warm reset keeps the Cold-reset fields, draws the UNKNOWN ones and clears the others. -/
theorem fieldOf_warmResetBits (h : impl c f = true) (u r old : Word) :
    fieldOf f (warmResetBits c u r old) =
      (if isCold f then fieldOf f old else 0) ||| (if resetClass f == .warmUnknown then fieldOf f u else 0) := by
  have hres0 : fieldOf f (r &&& c.RES0_STORAGE_MASK &&& ~~~implMask c) = 0 := by
    rw [implMask, fieldOf_and_not_mask, if_pos h]
  rw [warmResetBits, fieldOf_or, fieldOf_or, hres0, fieldOf_and_implMask, fieldOf_and_implMask, if_pos h, if_pos h,
    coldMask, auMask, fieldOf_and_mask, fieldOf_and_mask]
  exact BitVec.or_zero

/-- A Cold reset sets the Cold-reset fields, and leaves of the others what a Warm reset does. -/
theorem fieldOf_coldResetBits (h : impl c f = true) (u r old : Word) :
    fieldOf f (coldResetBits c u r old) =
      (if isCold f then 0 else fieldOf f (warmResetBits c u r old)) ||| fieldOf f coldValue := by
  have hkept (v : Word) : fieldOf f (v &&& ~~~(coldMask &&& implMask c)) = if isCold f then 0 else fieldOf f v := by
    rw [BitVec.not_and, BitVec.and_comm, or_and_right, fieldOf_or, BitVec.and_comm, BitVec.and_comm (~~~implMask c),
      coldMask, implMask, fieldOf_and_not_mask, fieldOf_and_not_mask, if_pos h]
    exact BitVec.or_zero
  rw [coldResetBits, fieldOf_or, hkept, fieldOf_and_implMask, if_pos h]

/-- What a Cold reset writes to a field: the value of its class, and nothing where the class is not Cold. -/
theorem fieldOf_coldValue_of_cold {v : Word} (hf : resetClass f = .cold v) : fieldOf f coldValue = v := by
  rw [coldValue_eq]
  cases f <;> cases hf <;> decide

theorem fieldOf_coldValue_of_warmZero (hf : resetClass f = .warmZero) : fieldOf f coldValue = 0 := by
  rw [coldValue_eq]
  cases f <;> cases hf <;> decide

theorem fieldOf_warmResetBits_of_cold (h : impl c f = true) {v : Word} (hf : resetClass f = .cold v)
    (u r old : Word) : fieldOf f (warmResetBits c u r old) = fieldOf f old := by
  simp [fieldOf_warmResetBits h, isCold, hf]

theorem fieldOf_warmResetBits_of_warmZero (h : impl c f = true) (hf : resetClass f = .warmZero)
    (u r old : Word) : fieldOf f (warmResetBits c u r old) = 0 := by
  simp [fieldOf_warmResetBits h, isCold, hf]

theorem fieldOf_coldResetBits_of_cold (h : impl c f = true) {v : Word} (hf : resetClass f = .cold v)
    (u r old : Word) : fieldOf f (coldResetBits c u r old) = v := by
  simp [fieldOf_coldResetBits h, fieldOf_coldValue_of_cold hf, isCold, hf]

theorem fieldOf_coldResetBits_of_warmZero (h : impl c f = true) (hf : resetClass f = .warmZero)
    (u r old : Word) : fieldOf f (coldResetBits c u r old) = 0 := by
  simp [fieldOf_coldResetBits h, fieldOf_coldValue_of_warmZero hf, fieldOf_warmResetBits_of_warmZero h hf]

end Reset

/-! ## Branch recording at EL3 (R176, R181) -/

/-- A one-bit field is not 0 exactly when it is 1. -/
theorem fieldOf_ne_zero_iff {f : Field} (hf : fieldWidth f = 1) (v : Word) : fieldOf f v ≠ 0 ↔ fieldOf f v = 1 := by
  have hlt : (fieldOf f v).toNat < 2 ^ 1 := hf ▸ fieldOf_toNat_lt f v
  bv_omega

section BranchRecording

variable {w : View}

/-- Both bits act: recording at EL3 is their XOR (R176). -/
theorem branchRecordingAtEL3_of_exists (hx : registerExists w.cfg = true) (hb : w.cfg.FEAT_BRBEv1p1 = true) :
    branchRecordingAtEL3 w = decide (fieldOf .E3BREC w.bits ≠ fieldOf .E3BREW w.bits) := by
  have hrec : w.value .E3BREC = some (fieldOf .E3BREC w.bits) := View.value_of_exists_of_impl hx hb
  have hrew : w.value .E3BREW = some (fieldOf .E3BREW w.bits) := View.value_of_exists_of_impl hx hb
  rw [Bool.eq_iff_iff]
  simp [branchRecordingAtEL3, View.has_of_value hrec, View.fld_of_value hrec, View.fld_of_value hrew]

/-- The same of the view with other bits in the register. -/
theorem branchRecordingAtEL3_withBits (hx : registerExists w.cfg = true) (hb : w.cfg.FEAT_BRBEv1p1 = true)
    (b : Word) : branchRecordingAtEL3 { w with bits := b } = decide (fieldOf .E3BREC b ≠ fieldOf .E3BREW b) :=
  branchRecordingAtEL3_of_exists (w := { w with bits := b }) hx hb

theorem has_E3BREC_of_not_BRBEv1p1 (hb : w.cfg.FEAT_BRBEv1p1 = false) : w.has .E3BREC = false :=
  View.has_of_none (View.value_of_not_impl hb)

/-- At EL3 the pair says whether the region is prohibited, where it is implemented (R181). -/
theorem branchProhibited_EL3_of_exists (hx : registerExists w.cfg = true) (hb : w.cfg.FEAT_BRBEv1p1 = true)
    (ss : SecState) : branchProhibited w .EL3 ss = !branchRecordingAtEL3 w := by
  have hrec : w.has .E3BREC = true := View.has_of_value (View.value_of_exists_of_impl hx hb)
  simp [branchProhibited, sbrbeProhibited, hb, hrec]

/-- Without FEAT_BRBEv1p1 EL3 is a prohibited region of SBRBE (R181). -/
theorem branchProhibited_EL3_of_not_BRBEv1p1 (hb : w.cfg.FEAT_BRBEv1p1 = false) (hs : w.has .SBRBE = true)
    (ss : SecState) : branchProhibited w .EL3 ss = true := by
  simp [branchProhibited, sbrbeProhibited, hb, hs]

end BranchRecording

/-- Settles O49: the XOR of the two bits, read of what each reset leaves of them. -/
theorem branchRecordingAcrossResets : Obligations.BranchRecordingAcrossResets := by
  unfold Obligations.BranchRecordingAcrossResets
  refine fun w u r old hx => ⟨fun hb => ⟨branchRecordingAtEL3_of_exists hx hb, ?cold, ?warm,
    branchProhibited_EL3_of_exists hx hb⟩, fun hb => ⟨?absent, branchProhibited_EL3_of_not_BRBEv1p1 hb⟩⟩
  case cold =>
    rw [branchRecordingAtEL3_withBits hx hb, fieldOf_coldResetBits_of_cold (f := .E3BREC) hb rfl,
      fieldOf_coldResetBits_of_warmZero (f := .E3BREW) hb rfl]
    rfl
  case warm =>
    rw [branchRecordingAtEL3_withBits hx hb, fieldOf_warmResetBits_of_cold (f := .E3BREC) hb rfl,
      fieldOf_warmResetBits_of_warmZero (f := .E3BREW) hb rfl]
    exact decide_eq_decide.2 (fieldOf_ne_zero_iff rfl old)
  case absent => simp [branchRecordingAtEL3, has_E3BREC_of_not_BRBEv1p1 hb]

/-! ## EBWE (R170) -/

/-- Settles O52: EBWE takes effect exactly while it acts as 0. -/
theorem extendedBreakpointsOffWhenEBWEZero : Obligations.ExtendedBreakpointsOffWhenEBWEZero := by
  unfold Obligations.ExtendedBreakpointsOffWhenEBWEZero
  refine ⟨rfl, fun c ns h => by rw [effectiveNoEL3_of_impl ns h]; rfl, fun w => ⟨fun h => ?zero, fun h => ?other⟩⟩
  case zero =>
    have hclear : w.isClear .EBWE = true := View.isClear_iff.2 h
    simp [effectiveEMBWE, effectiveEL2EBWE, effectiveBANK, hclear]
  case other =>
    have hclear : w.isClear .EBWE = false := by
      rw [Bool.eq_false_iff, ne_eq, View.isClear_iff]
      rcases h with h | h <;> simp [h]
    simp [effectiveEMBWE, effectiveEL2EBWE, effectiveBANK, hclear]

end Sys2Proof.Machine
end

section
/-! PROOFS. TDCC and TTRF (O29, O32): the accesses that each EC reports are classes, and no access is in two. -/

namespace Sys2Proof.Machine

@[simp] theorem isA64Move_iff (a : Access) :
    isA64Move a = true ↔ a.state = .AArch64 ∧ (a.instr = .MRS ∨ a.instr = .MSR) := by
  simp [isA64Move]

@[simp] theorem isMRCorMCR_iff (a : Access) : isMRCorMCR a = true ↔ a.instr = .MRC ∨ a.instr = .MCR := by
  simp [isMRCorMCR]

/-! ## TDCC (R202) -/

/-- The AArch64 moves of the DCC registers, of the data transfer registers in Non-debug state only: EC 0x18. -/
def DccA64Move (a : Access) : Prop :=
  a.state = .AArch64 ∧ (a.instr = .MRS ∨ a.instr = .MSR) ∧
    (a.reg.name ∈ dccA64Always ∨ (a.halted = false ∧ a.reg.name ∈ dccA64NonDebug))

/-- The AArch32 moves of the DCC registers: EC 0x05. -/
def DccA32Move (a : Access) : Prop :=
  a.state = .AArch32 ∧ (a.instr = .MRC ∨ a.instr = .MCR) ∧ a.coproc = 0b1110 ∧
    (a.reg.name ∈ dccA32Always ∨ (a.halted = false ∧ a.reg.name ∈ dccA32NonDebug))

/-- The AArch32 loads and stores of the data transfer registers, in Non-debug state: EC 0x06. -/
def DccA32Memory (a : Access) : Prop :=
  a.state = .AArch32 ∧ a.halted = false ∧
    ((a.instr = .LDC ∧ a.reg.name = .DBGDTRTXint) ∨ (a.instr = .STC ∧ a.reg.name = .DBGDTRRXint))

theorem DccA64Move.not_A32 {a : Access} (h : DccA64Move a) : ¬DccA32Move a ∧ ¬DccA32Memory a := by
  obtain ⟨hstate, -⟩ := h
  simp [DccA32Move, DccA32Memory, hstate]

theorem DccA32Move.not_A32Memory {a : Access} (h : DccA32Move a) : ¬DccA32Memory a := by
  obtain ⟨-, hinstr, -⟩ := h
  rcases hinstr with hinstr | hinstr <;> simp [DccA32Memory, hinstr]

/-- TDCC traps exactly the three classes below EL3, each with its EC. -/
theorem trapTDCC_eq_some_iff {w : View} {a : Access} {ec : EC} :
    trapTDCC w a = some ec ↔ w.value .TDCC = some 1 ∧ a.el ≠ .EL3 ∧
      ((DccA64Move a ∧ ec = 0x18) ∨ (DccA32Move a ∧ ec = 0x05) ∨ (DccA32Memory a ∧ ec = 0x06)) := by
  have hguard : (w.isSet .TDCC && belowEL3 a) = true ↔ w.value .TDCC = some 1 ∧ a.el ≠ .EL3 := by simp
  have h64 : (isA64Move a && (a.reg.isIn dccA64Always || (a.reg.isIn dccA64NonDebug && !a.halted))) = true ↔
      DccA64Move a := by simp [DccA64Move, and_assoc, and_comm (a := a.halted = false)]
  have h32 : (a.state == .AArch32 && isMRCorMCR a && a.coproc == 0b1110
      && (a.reg.isIn dccA32Always || (a.reg.isIn dccA32NonDebug && !a.halted))) = true ↔ DccA32Move a := by
    simp [DccA32Move, and_assoc, and_comm (a := a.halted = false)]
  have hmem : (a.state == .AArch32 && !a.halted && ((a.instr == .LDC && a.reg.isIn [.DBGDTRTXint])
      || (a.instr == .STC && a.reg.isIn [.DBGDTRRXint]))) = true ↔ DccA32Memory a := by
    simp [DccA32Memory, and_assoc]
  simp only [trapTDCC, Bool.not_eq_true', ← Bool.not_eq_true, ite_not, ite_eq_iff, hguard, h64, h32, hmem,
    Option.some_inj, reduceCtorEq, and_false, or_false, and_assoc]
  refine and_congr_right' (and_congr_right' ?_)
  by_cases hmove64 : DccA64Move a
  · obtain ⟨hno32, hnomem⟩ := hmove64.not_A32
    simp [hmove64, hno32, hnomem, eq_comm]
  · by_cases hmove32 : DccA32Move a
    · simp [hmove64, hmove32, hmove32.not_A32Memory, eq_comm]
    · simp [hmove64, hmove32, eq_comm]

/-- Settles O29, class by class. -/
theorem dccTrapsSpareDebugState : Obligations.DccTrapsSpareDebugState := by
  unfold Obligations.DccTrapsSpareDebugState
  refine ⟨rfl, fun w a => ⟨?move64, ?move32, ?memory, fun ec h => ?only⟩⟩
  case move64 => change _ ↔ _ ∧ _ ∧ DccA64Move a; simp [trapTDCC_eq_some_iff]
  case move32 => change _ ↔ _ ∧ _ ∧ DccA32Move a; simp [trapTDCC_eq_some_iff]
  case memory => change _ ↔ _ ∧ _ ∧ DccA32Memory a; simp [trapTDCC_eq_some_iff]
  case only =>
    obtain ⟨-, -, h⟩ := trapTDCC_eq_some_iff.1 h
    exact h.imp And.right (Or.imp And.right And.right)

/-! ## TTRF (R221) -/

/-- TTRF traps at EL2 and EL1, and its two classes are of different Execution states. -/
theorem trapTTRF_eq_some_iff {w : View} {a : Access} {ec : EC} :
    trapTTRF w a = some ec ↔ w.value .TTRF = some 1 ∧ (a.el = .EL1 ∨ a.el = .EL2) ∧
      ((a.state = .AArch64 ∧ a.reg.name ∈ [RegName.TRFCR_EL2, .TRFCR_EL12, .TRFCR_EL1] ∧ ec = 0x18) ∨
        (a.state = .AArch32 ∧ a.reg.name ∈ [RegName.HTRFCR, .TRFCR] ∧ ec = 0x03)) := by
  simp only [trapTTRF, Bool.not_eq_true', ← Bool.not_eq_true, Bool.and_eq_true, View.isSet_iff, atEL1or2_iff, isIn_iff,
    beq_iff_eq, ite_not, ite_eq_iff, Option.some_inj, reduceCtorEq, and_false, or_false, and_assoc]
  refine and_congr_right' (and_congr_right' ?_)
  cases a.state with
  | AArch64 => simp [eq_comm]
  | AArch32 => simp [eq_comm]

/-- Settles O32, Execution state by Execution state. -/
theorem traceFilterTraps : Obligations.TraceFilterTraps := by
  unfold Obligations.TraceFilterTraps
  refine ⟨rfl, fun w a => ⟨by simp [trapTTRF_eq_some_iff], by simp [trapTTRF_eq_some_iff], fun ec h => ?_⟩⟩
  obtain ⟨-, -, ⟨-, -, hec⟩ | ⟨-, -, hec⟩⟩ := trapTTRF_eq_some_iff.1 h
  · exact .inl hec
  · exact .inr hec

end Sys2Proof.Machine
end

section
/-! PROOFS. MTPME and PMSSE (O43, O44): each by value, and the two fields that only a Cold reset resets. -/

namespace Sys2Proof.Machine

/-! ## The MT bits (R201) -/

theorem mtEffective_of_not_acts {w : View} (h : mtpmeActsAsZero w = false) (b : Bool) : mtEffective w b = b := by
  simp [mtEffective, h]

theorem mtEffective_of_acts {w : View} (h : mtpmeActsAsZero w = true) (b : Bool) : mtEffective w b = false := by
  simp [mtEffective, h]

/-- MTPME at 1 acts as 0 exactly for an implementation that heeds a sibling whose MTPME is 0. -/
theorem mtpmeActsAsZero_of_one {w : View} (h : w.value .MTPME = some 1) :
    mtpmeActsAsZero w = (w.cfg.IMPDEF_MTPME_SIBLING_DISABLE &&
      decide (∃ q ∈ w.env.siblings, q.sameLevel1Affinity = true ∧ q.MTPME = false)) := by
  rw [Bool.eq_iff_iff, mtpmeActsAsZero_iff]
  simp [h, View.has_of_value h]

theorem resetClass_eq_cold_one_iff (f : Field) : resetClass f = .cold 1 ↔ f = .MTPME := by
  cases f <;> decide

/-- Settles O43: the three things MTPME can act with, and its reset class, which no other field has. -/
theorem mtBitsFollowMTPME : Obligations.MtBitsFollowMTPME := by
  unfold Obligations.MtBitsFollowMTPME
  refine ⟨fun w b => ⟨fun h => mtEffective_of_not_acts ?none b, fun h => mtEffective_of_acts ?zero b, fun h => ?one⟩,
    fun c u r old himpl => ⟨fieldOf_coldResetBits_of_cold himpl rfl u r old,
      fieldOf_warmResetBits_of_cold himpl (v := 1) rfl u r old⟩, resetClass_eq_cold_one_iff⟩
  case none => simp [← Bool.not_eq_true, mtpmeActsAsZero_iff, h, View.has_of_none h]
  case zero => exact mtpmeActsAsZero_iff.2 (.inl h)
  case one => rw [mtEffective, mtpmeActsAsZero_of_one h]

/-! ## Capture events (R200) -/

theorem captureEvents_of_none {w : View} (h : w.value .PMSSE = none) : captureEvents w = none := by
  simp [captureEvents, View.has_of_none h]

/-- The meaning of each value of PMSSE. -/
theorem captureEvents_of_value {w : View} {v : Word} (h : w.value .PMSSE = some v) :
    captureEvents w = some (if v = 0 then .Disabled else if v = 1 then .ByMDCR_EL2_PMSSE w.env.mdcrEL2Pmsse
      else if v = 2 then .EnabledProhibited else .EnabledAllowed) := by
  unfold captureEvents
  rw [View.has_of_value h, View.fld_of_value h]
  simp only [beq_iff_eq, apply_ite some]
  rfl

/-- Settles O44: the four values, the two resets, and R78's Effective value. -/
theorem captureEventsFollowPMSSE : Obligations.CaptureEventsFollowPMSSE := by
  unfold Obligations.CaptureEventsFollowPMSSE
  refine ⟨fun w => ⟨captureEvents_of_none, captureEvents_of_value, captureEvents_of_value, captureEvents_of_value,
    captureEvents_of_value⟩, fun c u r old ns himpl => ⟨fieldOf_coldResetBits_of_cold himpl rfl u r old,
      fieldOf_warmResetBits_of_cold himpl (v := 0) rfl u r old, ?_⟩⟩
  rw [effectiveNoEL3_of_impl ns himpl]
  rfl

end Sys2Proof.Machine
end

section
/-! PROOFS. STE and RLTE (O47), SDD and SPD32 (O51): a prohibition or an exception by the value of its field. -/

namespace Sys2Proof.Machine

/-! ## STE and RLTE (R222, R261) -/

theorem steProhibits_iff {w : View} {ss : SecState} : steProhibits w ss = true ↔
    w.value .STE = some 0 ∧ ss = .Secure ∧ w.env.authOverrideSecureTrace = false := by
  simp [steProhibits, and_assoc]

theorem rlteProhibits_iff {w : View} {ss : SecState} : rlteProhibits w ss = true ↔
    w.value .RLTE = some 0 ∧ ss = .Realm ∧ w.env.authOverrideRealmTrace = false := by
  simp [rlteProhibits, and_assoc]

theorem tracingProhibited_of_enables {w : View} {ss : SecState}
    (h : steProhibits w ss = true ∨ rlteProhibits w ss = true) : tracingProhibited w ss = some true := by
  rw [tracingProhibited, if_pos (by simpa using h)]

theorem exposed_eq (w : View) (f : Field) : exposed w f = (w.value f).map (fun v => decide (v = 1)) := by
  cases h : w.value f with
  | none => simp [exposed, View.has_of_none h]
  | some v =>
    have hset : w.isSet f = decide (v = 1) := by rw [Bool.eq_iff_iff, View.isSet_iff, h]; simp
    simp [exposed, View.has_of_value h, hset]

/-- Settles O47, from the condition of each prohibition and what the fields expose. -/
theorem traceEnablesByState : Obligations.TraceEnablesByState := by
  unfold Obligations.TraceEnablesByState
  refine ⟨fun w ss => ⟨steProhibits_iff, rlteProhibits_iff, tracingProhibited_of_enables, ?auth⟩, rfl, rfl,
    fun c => ⟨fun h => ?secure, ?nonsecure⟩⟩
  case auth => rw [← exposed_eq, ← exposed_eq]; rfl
  case secure => rw [effectiveNoEL3_of_impl false h]; rfl
  case nonsecure => simp [effectiveNoEL3]

/-! ## SDD and SPD32 (R226, R227, R240 to R242) -/

theorem sddDisables_iff {w : View} {x : DebugExc} : sddDisables w x = true ↔ w.value .SDD = some 1 ∧
    w.env.ss = .Secure ∧ w.env.scrRW = w.cfg.SDD_RW_VALUE ∧ x.isSoftware = true ∧
      x.isBreakpointInstruction = false := by
  have hhas : w.value .SDD = some 1 → w.has .SDD = true := View.has_of_value
  simp only [sddDisables, Bool.and_eq_true, sddActive_iff, View.isSet_iff, Bool.not_eq_true']
  tauto

section SPD32

variable {w : View}

/-- Breakpoint Instruction exceptions are always enabled (R240). -/
theorem spd32Enables_of_breakpointInstruction {x : DebugExc} (h : x.isBreakpointInstruction = true) :
    spd32Enables w x = some true := by
  simp [spd32Enables, h]

/-- Of the others SPD32 says what it says of Secure EL1, unless it is ignored (R241). -/
theorem spd32Enables_of_not_breakpointInstruction {x : DebugExc} (h : x.isBreakpointInstruction = false) :
    spd32Enables w x = if spd32Active w then some (spd32SecureEL1 w) else none := by
  simp [spd32Enables, h]

theorem spd32Active_of_value {v : Word} (h : w.value .SPD32 = some v) (hss : w.env.ss = .Secure)
    (hrw : w.env.scrRW = false) : spd32Active w = true :=
  spd32Active_iff.2 ⟨View.has_of_value h, hss, hrw⟩

/-- What each value of SPD32 makes of Secure EL1; the reserved 0b01 behaves as 0b00 (R240). -/
theorem spd32SecureEL1_of_value {v : Word} (h : w.value .SPD32 = some v) :
    spd32SecureEL1 w = if v = 2 then false else if v = 3 then true else w.env.authSecureEL1Debug := by
  simp only [spd32SecureEL1, View.fld_of_value h, beq_iff_eq]

theorem spd32SecureEL1_of_zero_or_one (h : w.value .SPD32 = some 0 ∨ w.value .SPD32 = some 1) :
    spd32SecureEL1 w = w.env.authSecureEL1Debug := by
  rcases h with h | h <;> exact spd32SecureEL1_of_value h

/-- SPD32's paragraph on Secure EL0 speaks while SPD32 is not ignored and Secure EL1 is AArch32 (R242). -/
theorem secureEL0BySPD32_of_active (h : spd32Active w = true) (ha32 : w.env.secureEL1AArch32 = true) :
    secureEL0BySPD32 w = some (spd32SecureEL1 w || w.env.suiden) := by
  simp [secureEL0BySPD32, h, ha32]

theorem secureEL0BySPD32_of_silent (h : w.value .SPD32 = none ∨ w.env.ss ≠ .Secure ∨ w.env.scrRW = true ∨
    w.env.secureEL1AArch32 = false) : secureEL0BySPD32 w = none := by
  rw [secureEL0BySPD32, if_neg]
  rw [Bool.and_eq_true, spd32Active_iff]
  rintro ⟨⟨hhas, hss, hrw⟩, ha32⟩
  rcases h with h | h | h | h
  · simp [View.has_of_none h] at hhas
  · exact h hss
  · simp [h] at hrw
  · simp [h] at ha32

end SPD32

/-- Settles O51: SDD by its condition, SPD32 by its value while it is not ignored. -/
theorem debugExceptionControls : Obligations.DebugExceptionControls := by
  unfold Obligations.DebugExceptionControls
  refine fun w x => ⟨sddDisables_iff, spd32Enables_of_breakpointInstruction, fun hx h => ?ignored,
    fun hx hhas hss hrw => ?spd32, ?sdd0, secureEL0BySPD32_of_silent, fun hss hrw ha32 => ?spd0⟩
  case ignored =>
    rw [spd32Enables_of_not_breakpointInstruction hx, if_neg]
    rw [spd32Active_iff]
    rintro ⟨-, hss, hrw⟩
    rcases h with h | h
    · exact h hss
    · simp [h] at hrw
  case spd32 =>
    have hactive : spd32Active w = true := spd32Active_iff.2 ⟨hhas, hss, hrw⟩
    rw [spd32Enables_of_not_breakpointInstruction hx, if_pos hactive]
    exact ⟨fun h => congrArg some (spd32SecureEL1_of_zero_or_one h),
      fun h => congrArg some (spd32SecureEL1_of_value h), fun h => congrArg some (spd32SecureEL1_of_value h)⟩
  case sdd0 =>
    have hhas : w.has .SDD = true ↔ w.value .SDD ≠ none := Option.isSome_iff_ne_none
    simp only [secureEL0BySDD, Bool.and_eq_true, hhas, and_assoc]
  case spd0 =>
    have hsays {v : Word} (h : w.value .SPD32 = some v) :
        secureEL0BySPD32 w = some (spd32SecureEL1 w || w.env.suiden) :=
      secureEL0BySPD32_of_active (spd32Active_of_value h hss hrw) ha32
    refine ⟨fun h => ?_, fun h => ?_, fun h => ?_⟩
    · rw [h.elim hsays hsays, spd32SecureEL1_of_zero_or_one h]
    · simp [hsays h, spd32SecureEL1_of_value h]
    · simp [hsays h, spd32SecureEL1_of_value h]

end Sys2Proof.Machine
end

section
/-! PROOFS. The debugger's accesses to trace unit, PMU and debug registers (O37), and the event counters (O41): each
disable by its variant, each counting prohibition by MPMX and SPME. -/

namespace Sys2Proof.Machine

/-! ## The pair of an ...ADE and an ...AD bit (R210) -/

/-- `E` stops Secure accesses, `D` Realm ones, either Non-secure ones, neither Root ones. -/
theorem xadProhibits_iff {E D : Bool} {attr : SecState} : xadProhibits E D attr = true ↔
    (attr = .NonSecure ∧ (E = true ∨ D = true)) ∨ (attr = .Realm ∧ D = true) ∨ (attr = .Secure ∧ E = true) := by
  cases E <;> cases D <;> cases attr <;> decide

/-- The accesses that a pair of fields stops, whatever the register. -/
def View.PairStops (w : View) (E D : Field) (attr : SecState) : Prop :=
  (attr = .NonSecure ∧ (w.value E = some 1 ∨ w.value D = some 1)) ∨ (attr = .Realm ∧ w.value D = some 1) ∨
    (attr = .Secure ∧ w.value E = some 1)

theorem xadProhibits_isSet_iff {w : View} {E D : Field} {attr : SecState} :
    xadProhibits (w.isSet E) (w.isSet D) attr = true ↔ w.PairStops E D attr := by
  rw [xadProhibits_iff, View.isSet_iff, View.isSet_iff, View.PairStops]

/-- A pair of fields that do not act stops nothing. -/
theorem View.not_pairStops {w : View} {E D : Field} (hE : w.value E = none) (hD : w.value D = none)
    (attr : SecState) : ¬w.PairStops E D attr := by
  simp [View.PairStops, hE, hD]

/-! ## The registers of EPMAD and EDAD (R212, R216) -/

theorem mem_epmadBase {n : RegName} {c : Config} : n ∈ epmadBase c ↔
    n ∈ [RegName.PMCCFILTR_EL0, .PMCCNTR_EL0, .PMCFGR, .PMCNTENCLR_EL0, .PMCNTENSET_EL0, .PMCR_EL0, .PMEVCNTRn_EL0,
      .PMEVTYPERn_EL0, .PMINTENCLR_EL1, .PMINTENSET_EL1, .PMOVSCLR_EL0, .PMOVSSET_EL0] ∨
    (n = .PMEVFILT2Rn ∧ c.PMEVFILT2R_IMPLEMENTED = true) ∨ (n = .PMIIDR ∧ c.PMIIDR_IMPLEMENTED = true) ∨
    (n = .PMSWINC_EL0 ∧ c.PMSWINC_IN_EXTERNAL_VIEW = true) ∨ (n = .PMMIR ∧ c.FEAT_PMUv3p4 = true) := by
  simp only [epmadBase, List.flatten_cons, List.flatten_nil, List.append_nil, List.mem_append, mem_regsIf,
    List.mem_singleton, and_comm]

theorem mem_epmadExt {n : RegName} {c : Config} : n ∈ epmadExt c ↔
    (n ∈ [RegName.PMCNTEN, .PMINTEN, .PMOVS] ∧ c.FEAT_PMUv3_EXT64 = true) ∨
    (n = .PMZR_EL0 ∧ c.FEAT_PMUv3p9 = true) ∨
    (n ∈ [RegName.PMCGCR0, .PMICFILTR_EL0, .PMICNTR_EL0] ∧ c.FEAT_PMUv3_ICNTR = true) ∨
    (n = .PMPCSCTL ∧ c.FEAT_PCSRv8p9 = true) := by
  simp only [epmadExt, List.flatten_cons, List.flatten_nil, List.append_nil, List.mem_append, mem_regsIf,
    List.mem_singleton, and_comm]

/-- Variants 1 and 2 have the longer list, variant 3 the shorter (R212, conflict C5). -/
theorem mem_epmadRegs_of_ne_three {n : RegName} {c : Config} (h : variant c .EPMAD ≠ 3) :
    n ∈ epmadRegs c ↔ n ∈ epmadBase c ∨ n ∈ epmadExt c := by
  simp [epmadRegs, h]

theorem epmadRegs_of_three {c : Config} (h : variant c .EPMAD = 3) : epmadRegs c = epmadBase c := by
  simp [epmadRegs, h]

/-- OSLAR_EL1 is one of EDAD's registers outside variant 4, and there if the implementation says so (R216). -/
theorem mem_edadRegs {n : RegName} {c : Config} : n ∈ edadRegs c ↔
    n ∈ [RegName.DBGBCRn_EL1, .DBGBVRn_EL1, .DBGWCRn_EL1, .DBGWVRn_EL1] ∨
      (n = .OSLAR_EL1 ∧ (variant c .EDAD ≠ 4 ∨ c.IMPDEF_EDAD_AFFECTS_OSLAR = true)) := by
  simp [edadRegs, or_assoc, and_comm]

/-! ## By variant, which FEAT_RME and FEAT_Debugv8p4 select (R211, R213 to R215, R217 to R220) -/

section Variants

variable {w : View} {e : ExtAccess}

/-- ETAD's pair needs the features that its fields need; without them neither acts. -/
theorem etadProhibits_iff_of_RME (hr : w.cfg.FEAT_RME = true) :
    etadProhibits w e = true ↔ e.reg ∈ w.cfg.traceUnitRegs ∧ w.PairStops .ETADE .ETAD e.attr := by
  cases hi : w.cfg.FEAT_TRC_EXT && w.cfg.FEAT_TRBE with
  | true =>
    have hv : variant w.cfg .ETAD = 1 := by simp_all [variant]
    simp [etadProhibits, hv, xadProhibits_isSet_iff]
  | false =>
    have hv : variant w.cfg .ETAD = 0 := by simp_all [variant]
    have hE : w.value .ETADE = none := View.value_of_not_impl (by simpa [impl, hr] using hi)
    have hD : w.value .ETAD = none := View.value_of_not_impl (by simpa [impl] using hi)
    simp [etadProhibits, hv, View.not_pairStops hE hD]

theorem etadProhibits_iff_of_not_RME (hr : w.cfg.FEAT_RME = false) :
    etadProhibits w e = true ↔ w.value .ETAD = some 1 ∧ e.attr = .NonSecure ∧ e.reg ∈ w.cfg.etadAffects := by
  cases hi : impl w.cfg .ETAD with
  | true =>
    have hv : variant w.cfg .ETAD = 2 := (variant_ETAD_eq_two hi).2 hr
    simp [etadProhibits, hv, and_assoc]
  | false =>
    have hv : variant w.cfg .ETAD = 0 := by simp_all [variant, impl]
    simp [etadProhibits, hv, View.value_of_not_impl hi]

theorem epmadProhibits_iff_of_RME (hr : w.cfg.FEAT_RME = true) : epmadProhibits w e = true ↔
    (e.reg.name ∈ epmadBase w.cfg ∨ e.reg.name ∈ epmadExt w.cfg) ∧ w.PairStops .EPMADE .EPMAD e.attr := by
  cases hi : w.cfg.FEAT_PMUv3_EXT with
  | true =>
    have hv : variant w.cfg .EPMAD = 1 := by simp [variant, hr, hi]
    simp [epmadProhibits, hv, mem_epmadRegs_of_ne_three, xadProhibits_isSet_iff]
  | false =>
    have hv : variant w.cfg .EPMAD = 0 := by simp [variant, hi]
    have hE : w.value .EPMADE = none := View.value_of_not_impl (by simp [impl, hi])
    have hD : w.value .EPMAD = none := View.value_of_not_impl hi
    simp [epmadProhibits, hv, View.not_pairStops hE hD]

theorem epmadProhibits_iff_of_Debugv8p4 (hr : w.cfg.FEAT_RME = false) (hd : w.cfg.FEAT_Debugv8p4 = true) :
    epmadProhibits w e = true ↔ w.value .EPMAD = some 1 ∧
      (e.reg.name ∈ epmadBase w.cfg ∨ e.reg.name ∈ epmadExt w.cfg) ∧ e.attr = .NonSecure := by
  cases hi : w.cfg.FEAT_PMUv3_EXT with
  | true =>
    have hv : variant w.cfg .EPMAD = 2 := by simp [variant, hr, hd, hi]
    simp [epmadProhibits, hv, mem_epmadRegs_of_ne_three, and_left_comm]
  | false =>
    have hv : variant w.cfg .EPMAD = 0 := by simp [variant, hi]
    simp [epmadProhibits, hv, View.value_of_not_impl (f := .EPMAD) hi]

theorem epmadProhibits_iff_before_Debugv8p4 (hr : w.cfg.FEAT_RME = false) (hd : w.cfg.FEAT_Debugv8p4 = false) :
    epmadProhibits w e = true ↔
      w.value .EPMAD = some 1 ∧ e.reg.name ∈ epmadBase w.cfg ∧ w.env.extSecureInvasive = false := by
  cases hi : w.cfg.FEAT_PMUv3_EXT with
  | true =>
    have hv : variant w.cfg .EPMAD = 3 := by simp [variant, hr, hd, hi]
    simp [epmadProhibits, hv, epmadRegs_of_three, and_left_comm]
  | false =>
    have hv : variant w.cfg .EPMAD = 0 := by simp [variant, hi]
    simp [epmadProhibits, hv, View.value_of_not_impl (f := .EPMAD) hi]

theorem edadProhibits_iff_of_RME (hr : w.cfg.FEAT_RME = true) : edadProhibits w e = true ↔
    e.reg.name ∈ edadRegs w.cfg ∧ w.PairStops .EDADE .EDAD e.attr := by
  simp [edadProhibits, variant_EDAD_eq_one.2 hr, xadProhibits_isSet_iff]

theorem edadProhibits_iff_of_Debugv8p4 (hr : w.cfg.FEAT_RME = false) (hd : w.cfg.FEAT_Debugv8p4 = true) :
    edadProhibits w e = true ↔ w.value .EDAD = some 1 ∧ e.reg.name ∈ edadRegs w.cfg ∧ e.attr = .NonSecure := by
  have hv : variant w.cfg .EDAD = 2 := by simp [variant, hr, hd]
  simp [edadProhibits, hv, and_left_comm]

/-- Variants 3 and 4 differ in their registers only. -/
theorem edadProhibits_iff_before_Debugv8p4 (hr : w.cfg.FEAT_RME = false) (hd : w.cfg.FEAT_Debugv8p4 = false) :
    edadProhibits w e = true ↔
      w.value .EDAD = some 1 ∧ e.reg.name ∈ edadRegs w.cfg ∧ w.env.extSecureInvasive = false := by
  cases h2 : w.cfg.FEAT_Debugv8p2 with
  | true =>
    have hv : variant w.cfg .EDAD = 3 := by simp [variant, hr, hd, h2]
    simp [edadProhibits, hv, and_left_comm]
  | false =>
    have hv : variant w.cfg .EDAD = 4 := by simp [variant, hr, hd, h2]
    simp [edadProhibits, hv, and_left_comm]

end Variants

/-- EDAD has its fourth variant where none of the three features is (R220). -/
theorem variant_EDAD_ne_four {c : Config} :
    variant c .EDAD ≠ 4 ↔ c.FEAT_RME = true ∨ c.FEAT_Debugv8p4 = true ∨ c.FEAT_Debugv8p2 = true := by
  unfold variant
  grind

/-- Settles O37, variant by variant. -/
theorem externalAccessDisablesByVariant : Obligations.ExternalAccessDisablesByVariant := by
  unfold Obligations.ExternalAccessDisablesByVariant
  refine ⟨fun E D => ?pair, fun w e => ?fields⟩
  case pair => refine ⟨?_, ?_, ?_, ?_⟩ <;> rw [Bool.eq_iff_iff, xadProhibits_iff] <;> simp
  case fields =>
    simp only [← mem_epmadBase, ← mem_epmadExt]
    refine ⟨fun hr => ⟨etadProhibits_iff_of_RME hr, epmadProhibits_iff_of_RME hr, ?_⟩,
      fun hr => ⟨etadProhibits_iff_of_not_RME hr,
        fun hd => ⟨epmadProhibits_iff_of_Debugv8p4 hr hd, ?_⟩,
        fun hd => ⟨epmadProhibits_iff_before_Debugv8p4 hr hd, ?_⟩⟩⟩
    · rw [edadProhibits_iff_of_RME hr, mem_edadRegs, variant_EDAD_ne_four]
      simp [hr, View.PairStops]
    · rw [edadProhibits_iff_of_Debugv8p4 hr hd, mem_edadRegs, variant_EDAD_ne_four]
      simp [hd]
    · rw [edadProhibits_iff_before_Debugv8p4 hr hd, mem_edadRegs, variant_EDAD_ne_four]
      simp [hr, hd]

/-! ## Event counters (R178, R223 to R225) -/

section EventCounters

variable {w : View} {n : Nat}

/-- Only MPMX and SPME stop an event counter. -/
theorem countingProhibited_PMEVCNTR : countingProhibited w (.PMEVCNTR n) = true ↔
    mpmxProhibits w (.PMEVCNTR n) = true ∨ spmeProhibits w (.PMEVCNTR n) = true := by
  simp [countingProhibited_iff, mccdProhibits_iff, sccdProhibits_iff]

theorem mpmxAffects_PMEVCNTR : mpmxAffects w (.PMEVCNTR n) = true ↔
    w.rangeOf n = .first ∨ (w.rangeOf n = .second ∧ (w.cfg.haveEL2 = false ∨ w.fld .SPME = 0)) := by
  simp [mpmxAffects]

theorem spmeAffects_PMEVCNTR : spmeAffects w (.PMEVCNTR n) = true ↔
    w.rangeOf n = .first ∨ w.rangeOf n = .second := by
  simp [spmeAffects]

/-- SPME reads as 0 where it is 0 and where there is none. -/
theorem View.fld_eq_zero_of_zero_or_none {f : Field} (h : w.value f = some 0 ∨ w.value f = none) : w.fld f = 0 :=
  h.elim View.fld_of_value View.fld_of_none

/-- MPMX and SPME of variant 1 together (R178, R223). -/
theorem countingProhibited_PMEVCNTR_of_PMUv3p7 (hp : w.cfg.FEAT_PMUv3p7 = true) :
    countingProhibited w (.PMEVCNTR n) = true ↔
      (w.value .MPMX = some 1 ∧ w.el = .EL3 ∧
        (w.rangeOf n = .first ∨ (w.rangeOf n = .second ∧ (w.cfg.haveEL2 = false ∨ w.fld .SPME = 0)))) ∨
      (w.value .MPMX = some 0 ∧ w.value .SPME = some 0 ∧ (w.env.ss = .Secure ∨ w.el = .EL3) ∧
        (w.rangeOf n = .first ∨ w.rangeOf n = .second)) := by
  rw [countingProhibited_PMEVCNTR, mpmxProhibits_iff, mpmxAffects_PMEVCNTR, spmeProhibits_iff_of_PMUv3p7 hp,
    spmeAffects_PMEVCNTR]

/-- Without FEAT_PMUv3p7 there is no MPMX: SPME alone, of variant 2 or 3 (R224, R225). -/
theorem countingProhibited_PMEVCNTR_of_not_PMUv3p7 (hp : w.cfg.FEAT_PMUv3p7 = false) :
    countingProhibited w (.PMEVCNTR n) = true ↔ w.value .SPME = some 0 ∧ w.env.ss = .Secure ∧
      (w.cfg.FEAT_Debugv8p2 = true ∨ w.env.extSecureNoninvasive = false) := by
  have hmpmx : w.value .MPMX = none := View.value_of_not_impl hp
  simp [countingProhibited_PMEVCNTR, mpmxProhibits_iff, hmpmx, spmeProhibits_iff_of_not_PMUv3p7 hp, spmeOldAffects]

end EventCounters

/-- Settles O41, row by row of the joint table, then variants 2 and 3. -/
theorem eventCounterJointTable : Obligations.EventCounterJointTable := by
  unfold Obligations.EventCounterJointTable
  refine fun w n => ⟨fun hp => ⟨fun hm hs => ?row00, fun hm hs => ?row01, fun hm hs => ?row10, fun hm hs => ?row11⟩,
    fun hp hd => ?variant2, fun hp hd => ?variant3⟩
  case row00 =>
    rw [Bool.eq_iff_iff, countingProhibited_PMEVCNTR_of_PMUv3p7 hp]
    simp [hm, hs, and_comm, or_comm]
  case row01 =>
    rw [← Bool.not_eq_true, countingProhibited_PMEVCNTR_of_PMUv3p7 hp]
    simp [hm, hs]
  case row10 =>
    rw [Bool.eq_iff_iff, countingProhibited_PMEVCNTR_of_PMUv3p7 hp, View.fld_eq_zero_of_zero_or_none hs]
    simp [hm, and_comm]
  case row11 =>
    rw [Bool.eq_iff_iff, countingProhibited_PMEVCNTR_of_PMUv3p7 hp, View.fld_of_value hs]
    simp [hm]
  case variant2 => simp [countingProhibited_PMEVCNTR_of_not_PMUv3p7 hp, hd]
  case variant3 => simp [countingProhibited_PMEVCNTR_of_not_PMUv3p7 hp, hd]

end Sys2Proof.Machine
end

section
/-! PROOFS. The owner pairs (O34, O36): the Trace Buffer's owner by NSTBE and NSTB, what a reserved pair makes of either
unit, and what data does to a unit that drops it. -/

namespace Sys2Proof.Machine

/-! ## The values of a pair (R203, R243) -/

theorem word_lt_two_iff {v : Word} : v < 2 ↔ v = 0 ∨ v = 1 := by bv_omega

/-- A reserved combination, of an E bit that is 0 or 1. -/
theorem pairReserved_iff {c : Config} {E N : Word} (hE : E = 0 ∨ E = 1) :
    pairReserved c E N = true ↔ (N = 0 ∨ N = 1) ∧ (E = 1 ∨ c.haveSecureState = false) := by
  rw [← word_lt_two_iff]
  rcases hE with rfl | rfl <;> simp [pairReserved]

/-- A field that acts on a PE with EL3 is one of a register that exists (R127). -/
theorem View.exists_of_value_of_EL3 {w : View} {f : Field} {v : Word} (h : w.value f = some v)
    (hel3 : w.cfg.haveEL3 = true) : registerExists w.cfg = true := by
  by_contra hx
  rw [View.value_of_absent (Bool.eq_false_iff.2 hx), if_pos hel3] at h
  cases h

/-- What an owner excludes: every other state, and of Root nothing is stated (log entry 22). -/
theorem excludedBy_owner (idle : Bool) (o ss : SecState) :
    excludedBy idle (some (.owner o)) ss = if ss = .Root then none else some (decide (ss ≠ o)) := by
  simp [excludedBy, beq_eq_decide]

/-! ## NSTBE and NSTB (R203 to R206) -/

section TraceBuffer

variable {w : View} {N : Word}

/-- NSTBE is 0 or 1, with a value or without. -/
theorem View.nstbe_cases (w : View) : w.nstbe = 0 ∨ w.nstbe = 1 := by
  rcases View.value_cases_one (w := w) (f := .NSTBE) rfl with h | h | h
  · exact View.ownerBit_of_none h _
  · exact .inl (View.ownerBit_of_value h _)
  · exact .inr (View.ownerBit_of_value h _)

/-- Beside an NSTB that acts, NSTBE is the value it acts with, 0 where it is RES0, and free on a PE without EL3
(R204; log entry 28). -/
theorem View.nstbe_of_value (hN : w.value .NSTB = some N) :
    w.value .NSTBE = some w.nstbe ∨ (w.value .NSTBE = none ∧
      (w.nstbe = 0 ∨ (w.nstbe = 1 ∧ impl w.cfg .NSTBE = true ∧ w.cfg.haveEL3 = false))) := by
  cases hE : w.value .NSTBE with
  | some v => exact .inl (congrArg some (View.ownerBit_of_value hE _).symm)
  | none =>
    cases himpl : impl w.cfg .NSTBE with
    | false => exact .inr ⟨rfl, .inl (View.ownerBit_of_not_impl himpl _)⟩
    | true =>
      refine .inr ⟨rfl, w.nstbe_cases.imp_right fun h1 => ⟨h1, rfl, Bool.eq_false_iff.2 fun hel3 => ?_⟩⟩
      rw [View.value_of_exists_of_impl (View.exists_of_value_of_EL3 hN hel3) himpl] at hE
      cases hE

/-- NSTB's variant 1, of FEAT_RME, is the one with reserved pairs (R203, R204). -/
theorem View.tbReserved_iff (hN : w.value .NSTB = some N) : w.tbReserved = true ↔
    w.cfg.FEAT_RME = true ∧ (N = 0 ∨ N = 1) ∧ (w.nstbe = 1 ∨ w.cfg.haveSecureState = false) := by
  have htrbe : w.cfg.FEAT_TRBE = true := View.impl_of_value hN
  have hvar : variant w.cfg .NSTB = 1 ↔ w.cfg.FEAT_RME = true := by simp [variant, htrbe]
  rw [← pairReserved_iff w.nstbe_cases, ← hvar]
  simp [View.tbReserved, View.has_of_value hN, View.fld_of_value hN]

theorem View.tbOwner_of_value (hN : w.value .NSTB = some N) :
    w.tbOwner = if w.nstbe = 1 then .Realm else if N = 0 ∨ N = 1 then .Secure else .NonSecure := by
  have hlow : 2 ≤ N ↔ ¬(N = 0 ∨ N = 1) := by rw [← word_lt_two_iff, BitVec.not_lt]
  simp only [View.tbOwner, View.fld_of_value hN, hlow, ite_not, beq_iff_eq]

theorem View.tbTrapAll_of_value (hN : w.value .NSTB = some N) : w.tbTrapAll = true ↔ N = 0 ∨ N = 2 := by
  simp [View.tbTrapAll, View.fld_of_value hN]

/-- The registers of the Trace Buffer Unit (R205). -/
theorem mem_tbRegs {n : RegName} {c : Config} : n ∈ tbRegs c ↔
    n ∈ [RegName.TRBBASER_EL1, .TRBLIMITR_EL1, .TRBMAR_EL1, .TRBPTR_EL1, .TRBSR_EL1, .TRBTRG_EL1] ∨
    (n = .TRBMPAM_EL1 ∧ c.FEAT_TRBE_MPAM = true) ∨ (n ∈ [RegName.TRBSR_EL2, .TRBSR_EL12] ∧ c.FEAT_TRBE_EXC = true) := by
  simp only [tbRegs, List.flatten_cons, List.flatten_nil, List.append_nil, List.mem_append, mem_regsIf,
    List.mem_singleton, and_comm]

theorem traceBufferUse_of_not_reserved (hN : w.value .NSTB = some N) (hres : w.tbReserved = false) :
    traceBufferUse w = some (.owner w.tbOwner) := by
  simp [traceBufferUse, View.has_of_value hN, hres]

/-- Only an enabled trace buffer prohibits tracing (R206). -/
theorem tbTraceProhibited_of_enabled (h : w.env.traceBufferEnabled = true) (ss : SecState) :
    tbTraceProhibited w ss = excludedBy false (traceBufferUse w) ss := by
  simp [tbTraceProhibited, h]

theorem tbTraceProhibited_of_disabled (h : w.env.traceBufferEnabled = false) (ss : SecState) :
    tbTraceProhibited w ss = some false := by
  simp [tbTraceProhibited, h]

/-- The accesses that a pair which is not reserved traps: all of them at NSTB[0] = 0, else those of other states. -/
theorem trapNSTB_of_not_reserved (hN : w.value .NSTB = some N) (hres : w.tbReserved = false) (a : Access) :
    trapNSTB w a = if registerExists w.cfg = true ∧ a.state = .AArch64 ∧ (a.instr = .MRS ∨ a.instr = .MSR) ∧
      a.reg.name ∈ tbRegs w.cfg ∧ (a.el = .EL1 ∨ a.el = .EL2) ∧ (N = 0 ∨ N = 2 ∨ a.ss ≠ w.tbOwner)
      then some 0x18 else none :=
  trapWhen_eq _ (by simp [View.has_of_value hN, hres, View.tbTrapAll_of_value hN, and_assoc, or_assoc])

end TraceBuffer

/-- Settles O34, with NSTBE as it acts beside NSTB for the E bit. -/
theorem traceBufferOwnerTable : Obligations.TraceBufferOwnerTable := by
  unfold Obligations.TraceBufferOwnerTable
  refine ⟨rfl, rfl, fun c ns himpl => ?effective, fun w N hN => ⟨w.nstbe, View.nstbe_of_value hN,
    View.tbReserved_iff hN, fun hres o ho => ?defined, fun ss => (tbTraceProhibited_of_disabled · ss)⟩⟩
  case effective => rw [effectiveNoEL3_of_impl ns himpl]; simp
  case defined =>
    rw [← View.tbOwner_of_value hN] at ho
    subst ho
    refine ⟨traceBufferUse_of_not_reserved hN hres, fun ss hroot hon => ?_, fun a => ?_⟩
    · rw [tbTraceProhibited_of_enabled hon, traceBufferUse_of_not_reserved hN hres, excludedBy_owner, if_neg hroot]
    · simp only [trapNSTB_of_not_reserved hN hres, mem_tbRegs]

/-! ## A reserved pair (R207, R208, R246, R247) -/

/-- The states that a unit in use, whose reserved pair acts as `p`, is kept from; `idle` as in `excludedBy`. -/
def reservedExcludes (idle : Bool) (ss : SecState) : ReservedOwner → Option Bool
  | .AsDisabled => some idle
  | .PickOwner o => if ss = .Root then none else some (decide (ss ≠ o))
  | .DropAndEvent => none

theorem excludedBy_reservedUse (idle inUse : Bool) (p : ReservedOwner) (ss : SecState) :
    excludedBy idle (some (reservedUse inUse p)) ss =
      if inUse = false then none else reservedExcludes idle ss p := by
  cases inUse with
  | false => rfl
  | true =>
    cases p with
    | AsDisabled => rfl
    | PickOwner o => exact excludedBy_owner idle o ss
    | DropAndEvent => rfl

theorem reservedUse_eq_dropAndEvent_iff {inUse : Bool} {p : ReservedOwner} :
    reservedUse inUse p = .dropAndEvent ↔ inUse = true ∧ p = .DropAndEvent := by
  cases inUse with
  | false => simp [reservedUse]
  | true => cases p <;> simp [reservedUse]

section Reserved

variable {w : View}

theorem View.has_NSTB_of_tbReserved (h : w.tbReserved = true) : w.has .NSTB = true := by
  simp only [View.tbReserved, Bool.and_eq_true] at h
  obtain ⟨⟨-, hhas⟩, -⟩ := h
  exact hhas

theorem View.has_NSPB_of_pbReserved (h : w.pbReserved = true) : w.has .NSPB = true := by
  simp only [View.pbReserved, Bool.and_eq_true] at h
  obtain ⟨⟨-, hhas⟩, -⟩ := h
  exact hhas

/-- The parameter alone says whether accesses trap, whatever Security state they are made in (R208, D4). -/
theorem trapNSTB_of_reserved (h : w.tbReserved = true) (a : Access) :
    trapNSTB w a = if registerExists w.cfg = true ∧ w.cfg.CU_NSTB_RESERVED_TRAP = true ∧ a.state = .AArch64 ∧
      (a.instr = .MRS ∨ a.instr = .MSR) ∧ a.reg.name ∈ tbRegs w.cfg ∧ (a.el = .EL1 ∨ a.el = .EL2)
      then some 0x18 else none :=
  trapWhen_eq _ (by simp [h, View.has_NSTB_of_tbReserved h, and_assoc, and_comm, and_left_comm])

/-- The same of the Statistical Profiling registers (R247, D4). -/
theorem trapNSPB_of_reserved (h : w.pbReserved = true) (a : Access) :
    trapNSPB w a = if registerExists w.cfg = true ∧ w.cfg.CU_NSPB_RESERVED_TRAP = true ∧ a.state = .AArch64 ∧
      pbAccess w.cfg a = true ∧ (a.el = .EL1 ∨ a.el = .EL2) then some 0x18 else none :=
  trapWhen_eq _ (by simp [h, View.has_NSPB_of_pbReserved h, and_assoc, and_comm, and_left_comm])

theorem tbTraceProhibited_of_reserved (h : w.tbReserved = true) (ss : SecState) :
    tbTraceProhibited w ss = if w.env.traceBufferEnabled = false then some false
      else if w.env.tbuSelfHosted = false then none else reservedExcludes false ss w.cfg.CU_NSTB_RESERVED := by
  split
  case isTrue hoff => exact tbTraceProhibited_of_disabled hoff ss
  case isFalse hon =>
    rw [tbTraceProhibited_of_enabled (Bool.eq_true_of_not_eq_false hon), traceBufferUse_of_reserved h,
      excludedBy_reservedUse]

theorem profilingDisabled_of_reserved (h : w.pbReserved = true) (ss : SecState) :
    profilingDisabled w ss = if w.env.profilingEnabled = false then none
      else reservedExcludes true ss w.cfg.CU_NSPB_RESERVED := by
  rw [profilingDisabled, profilingBufferUse_of_reserved h, excludedBy_reservedUse]

/-! ## Data at a unit that drops it (R207, R246) -/

/-- The Trace Buffer Unit drops its data. -/
def View.DropsTrace (w : View) : Prop :=
  w.tbReserved = true ∧ w.env.tbuSelfHosted = true ∧ w.cfg.CU_NSTB_RESERVED = .DropAndEvent

/-- The Statistical Profiling Unit drops its data. -/
def View.DropsProfiling (w : View) : Prop :=
  w.pbReserved = true ∧ w.env.profilingEnabled = true ∧ w.cfg.CU_NSPB_RESERVED = .DropAndEvent

theorem traceBufferUse_eq_dropAndEvent_iff : traceBufferUse w = some .dropAndEvent ↔ w.DropsTrace := by
  unfold View.DropsTrace
  cases h : w.tbReserved with
  | true => simp [traceBufferUse_of_reserved h, reservedUse_eq_dropAndEvent_iff]
  | false => cases hhas : w.has .NSTB <;> simp [traceBufferUse, h, hhas]

theorem profilingBufferUse_eq_dropAndEvent_iff : profilingBufferUse w = some .dropAndEvent ↔ w.DropsProfiling := by
  unfold View.DropsProfiling
  cases h : w.pbReserved with
  | true => simp [profilingBufferUse_of_reserved h, reservedUse_eq_dropAndEvent_iff]
  | false => cases hhas : w.has .NSPB <;> simp [profilingBufferUse, h, hhas]

theorem traceDataEnv_of_drops (h : w.DropsTrace) (x : EL) : traceDataEnv w x = w.env.updTrbsr x trbDrop := by
  simp [traceDataEnv, traceBufferUse_eq_dropAndEvent_iff.2 h]

theorem traceDataEnv_of_not_drops (h : ¬w.DropsTrace) (x : EL) : traceDataEnv w x = w.env := by
  simp [traceDataEnv, mt traceBufferUse_eq_dropAndEvent_iff.1 h]

theorem profilingDataEnv_of_drops (h : w.DropsProfiling) (x : EL) :
    profilingDataEnv w x = w.env.updPmbsr x pmbDrop := by
  simp [profilingDataEnv, profilingBufferUse_eq_dropAndEvent_iff.2 h]

theorem profilingDataEnv_of_not_drops (h : ¬w.DropsProfiling) (x : EL) : profilingDataEnv w x = w.env := by
  simp [profilingDataEnv, mt profilingBufferUse_eq_dropAndEvent_iff.1 h]

end Reserved

/-! ### The status registers -/

/-- TRBSR_ELx and PMBSR_ELx, for x other than EL0. -/
def Env.trbsrAt (env : Env) (x : EL) : TrbStatus :=
  if x = .EL1 then env.trbsr1 else if x = .EL2 then env.trbsr2 else env.trbsr3
def Env.pmbsrAt (env : Env) (x : EL) : PmbStatus :=
  if x = .EL1 then env.pmbsr1 else if x = .EL2 then env.pmbsr2 else env.pmbsr3

theorem Env.trbsrAt_updTrbsr {x : EL} (hx : x ≠ .EL0) (env : Env) (f : TrbStatus → TrbStatus) :
    (env.updTrbsr x f).trbsrAt x = f (env.trbsrAt x) := by
  cases x with
  | EL0 => exact absurd rfl hx
  | _ => rfl

theorem Env.pmbsrAt_updPmbsr {x : EL} (hx : x ≠ .EL0) (env : Env) (f : PmbStatus → PmbStatus) :
    (env.updPmbsr x f).pmbsrAt x = f (env.pmbsrAt x) := by
  cases x with
  | EL0 => exact absurd rfl hx
  | _ => rfl

/-- An update that leaves PMBSR_ELx as it is leaves the inputs. -/
theorem Env.updPmbsr_eq_self {env : Env} {x : EL} {f : PmbStatus → PmbStatus}
    (h : f (env.pmbsrAt x) = env.pmbsrAt x) : env.updPmbsr x f = env := by
  cases x with
  | EL0 => rfl
  | EL1 => exact congrArg (fun r => { env with pmbsr1 := r }) h
  | EL2 => exact congrArg (fun r => { env with pmbsr2 := r }) h
  | EL3 => exact congrArg (fun r => { env with pmbsr3 := r }) h

/-- What the drop makes of TRBSR_ELx: IRQ in any case, the rest of the event only where S was 0 (R207). -/
theorem trbDrop_fields (r : TrbStatus) : (trbDrop r).IRQ = true ∧ (trbDrop r).S = true ∧
    (trbDrop r).rest = r.rest ∧ (r.S = false → (trbDrop r).EC = 0 ∧ (trbDrop r).BSC = 0) ∧
    (r.S = true → (trbDrop r).EC = r.EC ∧ (trbDrop r).BSC = r.BSC) := by
  cases h : r.S <;> simp [trbDrop, h]

theorem pmbDrop_of_S {r : PmbStatus} (h : r.S = true) : pmbDrop r = r := by simp [pmbDrop, h]

/-- What it makes of PMBSR_ELx: an event only where S was 0 (R246). -/
theorem pmbDrop_fields (r : PmbStatus) : (pmbDrop r).S = true ∧ (pmbDrop r).rest = r.rest ∧
    (r.S = false → (pmbDrop r).DL = true ∧ (pmbDrop r).EC = 0 ∧ (pmbDrop r).BSC = 0) := by
  cases h : r.S <;> simp [pmbDrop, h]

/-- Trace data leaves every input but TRBSR_ELx, and with x = EL0 that too. -/
theorem traceDataEnv_frame (w : View) (x : EL) : traceDataEnv w x = { w.env with
    trbsr1 := if x = .EL1 then (traceDataEnv w x).trbsr1 else w.env.trbsr1
    trbsr2 := if x = .EL2 then (traceDataEnv w x).trbsr2 else w.env.trbsr2
    trbsr3 := if x = .EL3 then (traceDataEnv w x).trbsr3 else w.env.trbsr3 } := by
  by_cases h : w.DropsTrace
  · rw [traceDataEnv_of_drops h]; cases x <;> rfl
  · rw [traceDataEnv_of_not_drops h]; simp

theorem profilingDataEnv_frame (w : View) (x : EL) : profilingDataEnv w x = { w.env with
    pmbsr1 := if x = .EL1 then (profilingDataEnv w x).pmbsr1 else w.env.pmbsr1
    pmbsr2 := if x = .EL2 then (profilingDataEnv w x).pmbsr2 else w.env.pmbsr2
    pmbsr3 := if x = .EL3 then (profilingDataEnv w x).pmbsr3 else w.env.pmbsr3 } := by
  by_cases h : w.DropsProfiling
  · rw [profilingDataEnv_of_drops h]; cases x <;> rfl
  · rw [profilingDataEnv_of_not_drops h]; simp

theorem traceDataEnv_of_not_recorded {w : View} {x : EL} (h : ¬w.DropsTrace ∨ x = .EL0) :
    traceDataEnv w x = w.env := by
  rcases h with h | rfl
  · exact traceDataEnv_of_not_drops h x
  · exact traceDataEnv_frame w .EL0

theorem profilingDataEnv_of_not_recorded {w : View} {x : EL} (h : ¬w.DropsProfiling ∨ x = .EL0) :
    profilingDataEnv w x = w.env := by
  rcases h with h | rfl
  · exact profilingDataEnv_of_not_drops h x
  · exact profilingDataEnv_frame w .EL0

theorem trbsrAt_traceDataEnv {w : View} {x : EL} (h : w.DropsTrace) (hx : x ≠ .EL0) :
    (traceDataEnv w x).trbsrAt x = trbDrop (w.env.trbsrAt x) := by
  rw [traceDataEnv_of_drops h, Env.trbsrAt_updTrbsr hx]

theorem pmbsrAt_profilingDataEnv {w : View} {x : EL} (h : w.DropsProfiling) (hx : x ≠ .EL0) :
    (profilingDataEnv w x).pmbsrAt x = pmbDrop (w.env.pmbsrAt x) := by
  rw [profilingDataEnv_of_drops h, Env.pmbsrAt_updPmbsr hx]

theorem profilingDataEnv_of_S {w : View} {x : EL} (h : w.DropsProfiling) (hS : (w.env.pmbsrAt x).S = true) :
    profilingDataEnv w x = w.env := by
  rw [profilingDataEnv_of_drops h, Env.updPmbsr_eq_self (pmbDrop_of_S hS)]

/-- Settles O36: the reserved pair of each unit, then what the two data events leave of the inputs. -/
theorem reservedOwnerPairsActAsChosen : Obligations.ReservedOwnerPairsActAsChosen := by
  unfold Obligations.ReservedOwnerPairsActAsChosen
  refine ⟨fun w h => ⟨trapNSTB_of_reserved h, traceBufferUse_of_reserved h, tbTraceProhibited_of_reserved h⟩,
    fun w h => ⟨trapNSPB_of_reserved h, profilingBufferUse_of_reserved h, profilingDisabled_of_reserved h⟩,
    fun s t u x ht hu => ?_⟩
  cases ht
  cases hu
  refine ⟨fun hdrops hx => ?trace, traceDataEnv_of_not_recorded, traceDataEnv_frame s.view x,
    fun hdrops hx => ?profiling, profilingDataEnv_of_not_recorded, profilingDataEnv_frame s.view x,
    rfl, rfl, rfl, rfl, rfl, rfl⟩
  case trace =>
    have hfields := trbDrop_fields (s.view.env.trbsrAt x)
    rw [← trbsrAt_traceDataEnv hdrops hx] at hfields
    exact hfields
  case profiling =>
    have hfields := pmbDrop_fields (s.view.env.pmbsrAt x)
    rw [← pmbsrAt_profilingDataEnv hdrops hx] at hfields
    obtain ⟨hS, hrest, hevent⟩ := hfields
    exact ⟨hS, hrest, hevent, profilingDataEnv_of_S (w := s.view) hdrops⟩

end Sys2Proof.Machine
end

section
/-! PROOFS. The controls of bits 15 to 0 (O30, O31, O33, O46): the conditions of TDOSA, TDA, EnPM2 and TPM as register
lists and access classes, an Execution state at a time, and the F0 bits that EnPM2 forces. -/

namespace Sys2Proof.Machine

/-! ## TDOSA (R248 to R251) -/

section PowerDown

variable {c : Config} {r : SysReg}

theorem variant_TDOSA_eq_one : variant c .TDOSA = 1 ↔ c.FEAT_DoubleLock = true := by simp [variant]

/-- The AArch64 registers, with OSDLR_EL1 by variant and those the implementation adds (R248, R249). -/
theorem tdosaA64_iff : tdosaA64 c r = true ↔
    r.name ∈ [RegName.OSLAR_EL1, .OSLSR_EL1, .DBGPRCR_EL1] ∨
    (r.name = .OSDLR_EL1 ∧ (c.FEAT_DoubleLock = true ∨ c.IMPDEF_TDOSA_TRAPS_OSDLR = true)) ∨
    r ∈ c.tdosaExtraA64 := by
  simp only [tdosaA64, Bool.or_eq_true, Bool.and_eq_true, isIn_iff, beq_iff_eq, variant_TDOSA_eq_one,
    List.mem_singleton, List.contains_iff_mem, or_assoc]

theorem tdosaA32_iff : tdosaA32 c r = true ↔
    r.name ∈ [RegName.DBGOSLAR, .DBGOSLSR, .DBGPRCR] ∨
    (r.name = .DBGOSDLR ∧ (c.FEAT_DoubleLock = true ∨ c.IMPDEF_TDOSA_TRAPS_OSDLR = true)) ∨
    r ∈ c.tdosaExtraA32 := by
  simp only [tdosaA32, Bool.or_eq_true, Bool.and_eq_true, isIn_iff, beq_iff_eq, variant_TDOSA_eq_one,
    List.mem_singleton, List.contains_iff_mem, or_assoc]

end PowerDown

/-- TDOSA's condition comes first, and the access decides the EC. -/
theorem trapTDOSA_eq (w : View) (el2 : Bool) (a : Access) : trapTDOSA w el2 a =
    if w.value .TDOSA = some 1 ∧ (a.el = .EL1 ∨ a.el = .EL2) ∧ el2 = false then
      if a.state = .AArch64 ∧ tdosaA64 w.cfg a.reg = true then some 0x18
      else if a.state = .AArch32 ∧ (a.instr = .MRC ∨ a.instr = .MCR) ∧ tdosaA32 w.cfg a.reg = true then some 0x05
      else none
    else none := by
  have hguard : (!(w.isSet .TDOSA && atEL1or2 a) || el2) = true ↔
      ¬(w.value .TDOSA = some 1 ∧ (a.el = .EL1 ∨ a.el = .EL2) ∧ el2 = false) := by
    rw [← View.isSet_iff, ← atEL1or2_iff]
    cases w.isSet .TDOSA <;> cases atEL1or2 a <;> simp
  simp only [trapTDOSA, hguard, ite_not, Bool.and_eq_true, beq_iff_eq, isMRCorMCR_iff, and_assoc]

/-- Settles O30, with the registers of each Execution state. -/
theorem tdosaYieldsToEL2 : Obligations.TdosaYieldsToEL2 := by
  unfold Obligations.TdosaYieldsToEL2
  refine ⟨rfl, fun w el2 a => ⟨fun hx => View.value_of_exists_of_impl hx rfl, ?_⟩⟩
  simp only [trapTDOSA_eq, tdosaA64_iff, tdosaA32_iff]

/-- The condition that TDA and TPM have in common: the field is 1, and the access is made below EL3. -/
theorem isSet_and_belowEL3_of_not_acting {w : View} {f : Field} {a : Access} (h : w.value f ≠ some 1 ∨ a.el = .EL3) :
    (w.isSet f && belowEL3 a) = false := by
  rw [Bool.eq_false_iff, ne_eq, Bool.and_eq_true, View.isSet_iff, belowEL3_iff]
  tauto

/-! ## TDA (R252 to R254) -/

/-- MDSELR_EL1 escapes only with at most 16 breakpoints and watchpoints, RAZ/WI, and by the implementation's choice
(R254). -/
theorem tdaTrapsMDSELR_iff {c : Config} : tdaTrapsMDSELR c = true ↔
    16 < c.NUM_BREAKPOINTS ∨ 16 < c.NUM_WATCHPOINTS ∨ c.MDSELR_RAZWI = false ∨ c.IMPDEF_TDA_TRAPS_MDSELR = true := by
  simp only [tdaTrapsMDSELR, Bool.and_eq_true, decide_eq_true_eq]
  split
  case isTrue h =>
    obtain ⟨⟨hb, hw⟩, hraz⟩ := h
    simp [Nat.not_lt.2 hb, Nat.not_lt.2 hw, hraz]
  case isFalse h =>
    have : 16 < c.NUM_BREAKPOINTS ∨ 16 < c.NUM_WATCHPOINTS ∨ c.MDSELR_RAZWI = false := by grind
    tauto

theorem mem_tdaA64Regs {n : RegName} {c : Config} : n ∈ tdaA64Regs c ↔
    n ∈ [RegName.DBGAUTHSTATUS_EL1, .DBGBCRn_EL1, .DBGBVRn_EL1, .DBGCLAIMCLR_EL1, .DBGCLAIMSET_EL1, .DBGVCR32_EL2,
      .DBGWCRn_EL1, .DBGWVRn_EL1, .MDCCINT_EL1, .MDCCSR_EL0, .MDCR_EL2, .MDRAR_EL1, .MDSCR_EL1, .OSDTRRX_EL1,
      .OSDTRTX_EL1, .OSECCR_EL1] ∨
    (n = .MDSELR_EL1 ∧ c.FEAT_Debugv8p9 = true ∧ tdaTrapsMDSELR c = true) ∨
    (n = .MDSTEPOP_EL1 ∧ c.FEAT_STEP2 = true) := by
  simp only [tdaA64Regs, List.flatten_cons, List.flatten_nil, List.append_nil, List.mem_append, mem_regsIf,
    List.mem_singleton, Bool.and_eq_true, and_comm]

section DebugRegisters

variable {w : View} {a : Access}

/-- In AArch64 state the class is the moves of the list, and of the DCC those in Non-debug state (R252). -/
theorem tdaA64Access_iff {c : Config} (hs : a.state = .AArch64) : tdaA64Access c a = true ↔
    ((a.instr = .MRS ∨ a.instr = .MSR) ∧ a.reg.name ∈ tdaA64Regs c) ∨
    (a.halted = false ∧ a.instr = .MRS ∧ (a.reg.name = .DBGDTRRX_EL0 ∨ a.reg.name = .DBGDTR_EL0)) ∨
    (a.halted = false ∧ a.instr = .MSR ∧ (a.reg.name = .DBGDTRTX_EL0 ∨ a.reg.name = .DBGDTR_EL0)) := by
  simp [tdaA64Access, hs, or_assoc, and_assoc]

/-- The MRC and MCR moves of R253: the list, and the two DCC registers in Non-debug state. -/
theorem tdaA32Access_iff_of_move (hs : a.state = .AArch32) (hi : a.instr = .MRC ∨ a.instr = .MCR) :
    tdaA32Access a = true ↔ a.reg.name ∈ tdaA32Regs ∨
      (a.halted = false ∧ a.instr = .MRC ∧ a.reg.name = .DBGDTRRXint) ∨
      (a.halted = false ∧ a.instr = .MCR ∧ a.reg.name = .DBGDTRTXint) := by
  rcases hi with hi | hi <;> simp [tdaA32Access, hs, hi]

/-- The other accesses of R253, in Debug state as in Non-debug state. -/
theorem tdaA32Access_iff_of_not_move (hs : a.state = .AArch32) (hmrc : a.instr ≠ .MRC) (hmcr : a.instr ≠ .MCR) :
    tdaA32Access a = true ↔ (a.instr = .MRRC ∧ (a.reg.name = .DBGDRAR ∨ a.reg.name = .DBGDSAR)) ∨
      (a.instr = .STC ∧ a.reg.name = .DBGDTRRXint) ∨ (a.instr = .LDC ∧ a.reg.name = .DBGDTRTXint) := by
  simp [tdaA32Access, hs, hmrc, hmcr, or_assoc]

theorem trapTDA_of_not_acting (h : w.value .TDA ≠ some 1 ∨ a.el = .EL3) : trapTDA w a = none := by
  simp [trapTDA, isSet_and_belowEL3_of_not_acting h]

theorem trapTDA_of_AArch64 (hv : w.value .TDA = some 1) (hel : a.el ≠ .EL3) (hs : a.state = .AArch64) :
    trapTDA w a = if tdaA64Access w.cfg a = true then some 0x18 else none := by
  have hno32 : tdaA32Access a = false := by simp [tdaA32Access, hs]
  simp [trapTDA, View.isSet_iff.2 hv, (belowEL3_iff a).2 hel, hno32]

/-- Of a move the coprocessor decides the EC (R254, conflict C1). -/
theorem trapTDA_of_move (hv : w.value .TDA = some 1) (hel : a.el ≠ .EL3) (hs : a.state = .AArch32)
    (hi : a.instr = .MRC ∨ a.instr = .MCR) : trapTDA w a =
      if tdaA32Access a = true then
        (if a.coproc = 0b1111 then some 0x03 else if a.coproc = 0b1110 then some 0x05 else none)
      else none := by
  have hno64 : tdaA64Access w.cfg a = false := by simp [tdaA64Access, hs]
  have hmove : isMRCorMCR a = true := (isMRCorMCR_iff a).2 hi
  have hno : (a.instr == .LDC || a.instr == .STC) = false ∧ (a.instr == .MRRC) = false := by
    rcases hi with hi | hi <;> simp [hi]
  cases h32 : tdaA32Access a <;>
    simp [trapTDA, View.isSet_iff.2 hv, (belowEL3_iff a).2 hel, hno64, hmove, hno, h32]

theorem trapTDA_of_not_move (hv : w.value .TDA = some 1) (hel : a.el ≠ .EL3) (hs : a.state = .AArch32)
    (hmrc : a.instr ≠ .MRC) (hmcr : a.instr ≠ .MCR) : trapTDA w a =
      if (a.instr = .STC ∧ a.reg.name = .DBGDTRRXint) ∨ (a.instr = .LDC ∧ a.reg.name = .DBGDTRTXint) then some 0x06
      else if a.instr = .MRRC ∧ (a.reg.name = .DBGDRAR ∨ a.reg.name = .DBGDSAR) then some 0x0C
      else none := by
  have hno64 : tdaA64Access w.cfg a = false := by simp [tdaA64Access, hs]
  have hmove : isMRCorMCR a = false := by simp [isMRCorMCR, hmrc, hmcr]
  have hmem : (tdaA32Access a && (a.instr == .LDC || a.instr == .STC)) = true ↔
      (a.instr = .STC ∧ a.reg.name = .DBGDTRRXint) ∨ (a.instr = .LDC ∧ a.reg.name = .DBGDTRTXint) := by
    rw [Bool.and_eq_true, tdaA32Access_iff_of_not_move hs hmrc hmcr]
    cases a.instr <;> simp
  have hpair : (tdaA32Access a && a.instr == .MRRC) = true ↔
      a.instr = .MRRC ∧ (a.reg.name = .DBGDRAR ∨ a.reg.name = .DBGDSAR) := by
    rw [Bool.and_eq_true, tdaA32Access_iff_of_not_move hs hmrc hmcr]
    cases a.instr <;> simp
  simp only [trapTDA, View.isSet_iff.2 hv, (belowEL3_iff a).2 hel, hno64, hmove, hmem, hpair, Bool.and_false,
    Bool.false_and, Bool.and_true, Bool.not_true, Bool.false_eq_true, if_false]

end DebugRegisters

/-- Settles O31: nothing of a TDA that is not 1 or at EL3, then the AArch64 class, the moves, the other accesses. -/
theorem debugRegisterTrapsByClass : Obligations.DebugRegisterTrapsByClass := by
  unfold Obligations.DebugRegisterTrapsByClass
  refine ⟨rfl, fun w a => ⟨fun hx => View.value_of_exists_of_impl hx rfl, fun h => trapTDA_of_not_acting ?none,
    fun hv hel => ⟨fun hs => ?a64, fun hs hi => ?move, fun hs => trapTDA_of_not_move hv hel hs⟩⟩⟩
  case none => rcases h with h | h | h <;> simp [h]
  case a64 => simp only [trapTDA_of_AArch64 hv hel hs, tdaA64Access_iff hs, mem_tdaA64Regs, tdaTrapsMDSELR_iff]
  case move => simp only [trapTDA_of_move hv hel hs hi, tdaA32Access_iff_of_move hs hi, tdaA32Regs]

/-! ## EnPM2 and TPM (R255, R257) -/

/-- The registers that EnPM2 traps in both directions, each group by its feature (R255). -/
theorem mem_enPM2Regs {n : RegName} {c : Config} : n ∈ enPM2Regs c ↔
    (n = .PMECR_EL1 ∧ (c.FEAT_EBEP = true ∨ c.FEAT_PMUv3_SS = true)) ∨
    (n ∈ [RegName.PMICFILTR_EL0, .PMICNTR_EL0] ∧ c.FEAT_PMUv3_ICNTR = true) ∨
    (n = .PMUACR_EL1 ∧ c.FEAT_PMUv3p9 = true) ∨
    (n ∈ [RegName.SPMACCESSR_EL1, .SPMACCESSR_EL2, .SPMACCESSR_EL12, .SPMCFGR_EL1, .SPMCGCRn_EL1, .SPMCNTENCLR_EL0,
      .SPMCNTENSET_EL0, .SPMCR_EL0, .SPMDEVAFF_EL1, .SPMDEVARCH_EL1, .SPMEVCNTRn_EL0, .SPMEVFILT2Rn_EL0,
      .SPMEVFILTRn_EL0, .SPMEVTYPERn_EL0, .SPMIIDR_EL1, .SPMINTENCLR_EL1, .SPMINTENSET_EL1, .SPMOVSCLR_EL0,
      .SPMOVSSET_EL0, .SPMSCR_EL1, .SPMSELR_EL0] ∧ c.FEAT_SPMU = true) := by
  simp only [enPM2Regs, List.flatten_cons, List.flatten_nil, List.append_nil, List.mem_append, mem_regsIf,
    List.mem_singleton, Bool.or_eq_true, and_comm]

theorem trapEnPM2_eq (w : View) (a : Access) : trapEnPM2 w a =
    if w.value .EnPM2 = some 0 ∧ a.state = .AArch64 ∧ a.el ≠ .EL3 ∧
      (((a.instr = .MRS ∨ a.instr = .MSR) ∧ a.reg.name ∈ enPM2Regs w.cfg) ∨
        (a.instr = .MSR ∧ a.reg.name = .SPMZR_EL0 ∧ w.cfg.FEAT_SPMU2 = true))
    then some 0x18 else none := by
  refine trapWhen_eq _ ?_
  simp only [Bool.and_eq_true, Bool.or_eq_true, View.isClear_iff, beq_iff_eq, belowEL3_iff, isMRSorMSR_iff, isIn_iff,
    List.mem_singleton]
  tauto

theorem mem_tpmA64RW {n : RegName} {c : Config} : n ∈ tpmA64RW c ↔
    n ∈ [RegName.PMCCFILTR_EL0, .PMCCNTR_EL0, .PMCNTENCLR_EL0, .PMCNTENSET_EL0, .PMCR_EL0, .PMEVCNTRn_EL0,
      .PMEVTYPERn_EL0, .PMINTENCLR_EL1, .PMINTENSET_EL1, .PMOVSCLR_EL0, .PMOVSSET_EL0, .PMSELR_EL0, .PMSWINC_EL0,
      .PMUSERENR_EL0, .PMXEVCNTR_EL0, .PMXEVTYPER_EL0] ∨
    (n ∈ [RegName.PMICFILTR_EL0, .PMICNTR_EL0] ∧ c.FEAT_PMUv3_ICNTR = true) ∨
    (n = .PMECR_EL1 ∧ (c.FEAT_EBEP = true ∨ c.FEAT_PMUv3_SS = true)) := by
  simp only [tpmA64RW, List.flatten_cons, List.flatten_nil, List.append_nil, List.mem_append, mem_regsIf,
    List.mem_singleton, Bool.or_eq_true, and_comm]

theorem mem_tpmA64RO {n : RegName} {c : Config} : n ∈ tpmA64RO c ↔
    n ∈ [RegName.PMCEID0_EL0, .PMCEID1_EL0] ∨ (n = .PMMIR_EL1 ∧ c.FEAT_PMUv3p4 = true) := by
  simp [tpmA64RO, or_assoc, and_comm]

theorem mem_tpmA64WO {n : RegName} {c : Config} : n ∈ tpmA64WO c ↔ n = .PMZR_EL0 ∧ c.FEAT_PMUv3p9 = true := by
  simp [tpmA64WO, and_comm]

theorem mem_tpmA32RO {n : RegName} {c : Config} : n ∈ tpmA32RO c ↔
    (n ∈ [RegName.PMCEID2, .PMCEID3] ∧ c.FEAT_PMUv3p1 = true) ∨ (n = .PMMIR ∧ c.FEAT_PMUv3p4 = true) := by
  simp [tpmA32RO, and_comm]

section PerformanceMonitors

variable {w : View} {a : Access}

theorem trapTPM_of_not_acting (h : w.value .TPM ≠ some 1 ∨ a.el = .EL3) : trapTPM w a = none := by
  simp [trapTPM, isSet_and_belowEL3_of_not_acting h]

theorem trapTPM_of_AArch64 (hv : w.value .TPM = some 1) (hel : a.el ≠ .EL3) (hs : a.state = .AArch64) :
    trapTPM w a = if ((a.instr = .MRS ∨ a.instr = .MSR) ∧ a.reg.name ∈ tpmA64RW w.cfg) ∨
      (a.instr = .MRS ∧ a.reg.name ∈ tpmA64RO w.cfg) ∨ (a.instr = .MSR ∧ a.reg.name ∈ tpmA64WO w.cfg)
      then some 0x18 else none := by
  simp [trapTPM, View.isSet_iff.2 hv, (belowEL3_iff a).2 hel, hs, or_assoc]

theorem trapTPM_of_AArch32 (hv : w.value .TPM = some 1) (hel : a.el ≠ .EL3) (hs : a.state = .AArch32) :
    trapTPM w a = if ((a.instr = .MRC ∨ a.instr = .MCR) ∧ a.reg.name ∈ tpmA32RW) ∨
      (a.instr = .MRC ∧ a.reg.name ∈ tpmA32RO w.cfg) then some 0x03
      else if (a.instr = .MRRC ∨ a.instr = .MCRR) ∧ a.reg.name = .PMCCNTR then some 0x04 else none := by
  simp [trapTPM, View.isSet_iff.2 hv, (belowEL3_iff a).2 hel, hs]

end PerformanceMonitors

/-- Settles O33: EnPM2 by its registers, then TPM, an Execution state at a time. -/
theorem pmuTrapsByClass : Obligations.PmuTrapsByClass := by
  unfold Obligations.PmuTrapsByClass
  refine ⟨rfl, rfl, fun w a => ⟨?enpm2, trapTPM_of_not_acting, fun hv hel => ⟨fun hs => ?a64, fun hs => ?a32⟩⟩⟩
  case enpm2 => simp only [trapEnPM2_eq, mem_enPM2Regs]
  case a64 => simp only [trapTPM_of_AArch64 hv hel hs, mem_tpmA64RW, mem_tpmA64RO, mem_tpmA64WO]
  case a32 => simp only [trapTPM_of_AArch32 hv hel hs, mem_tpmA32RO, tpmA32RW]

/-! ## The F0 bits (R256) -/

theorem f0Forced_iff {w : View} {r : RegName} : f0Forced w r = true ↔
    w.value .EnPM2 = some 0 ∧ w.cfg.FEAT_PMUv3_ICNTR = true ∧
      ((r ∈ [RegName.PMCNTENCLR_EL0, .PMCNTENSET_EL0, .PMOVSCLR_EL0, .PMOVSSET_EL0, .PMZR_EL0] ∧ w.el ≠ .EL3) ∨
        (r ∈ [RegName.PMINTENCLR_EL1, .PMINTENSET_EL1] ∧ (w.el = .EL1 ∨ w.el = .EL2))) := by
  simp only [f0Forced, Bool.and_eq_true, Bool.or_eq_true, Bool.not_eq_true', View.isClear_iff, List.contains_iff_mem,
    beq_iff_eq, beq_eq_false_iff_ne, ne_eq, and_assoc]

/-- A forced bit reads as zero, any other as it is stored. -/
theorem f0Read_eq (w : View) (r : RegName) (b : Bool) : f0Read w r b = if f0Forced w r then false else b := by
  cases h : f0Forced w r <;> simp [f0Read, h]

/-- Settles O46; the two queries answer with what is forced. -/
theorem fZeroBitsAreForced : Obligations.FZeroBitsAreForced := by
  unfold Obligations.FZeroBitsAreForced
  exact fun w r b => ⟨f0Forced_iff, f0Read_eq w r b, rfl, rfl⟩

end Sys2Proof.Machine
end

section
/-! PROOFS. NSPBE and NSPB (O35): the Statistical Profiling Unit's owner by the pair, as the Trace Buffer's by its own. -/

namespace Sys2Proof.Machine

/-- The E bit beside a pair's field that acts: the value it acts with, 0 where it is RES0, and free on a PE without EL3
(R204, R244; log entry 28). -/
theorem View.ownerBit_of_acting_partner {w : View} {E F : Field} {N : Word} (hN : w.value F = some N)
    (drawn : Bool) :
    w.value E = some (w.ownerBit E drawn) ∨ (w.value E = none ∧ (w.ownerBit E drawn = 0 ∨
      (w.ownerBit E drawn = 1 ∧ impl w.cfg E = true ∧ w.cfg.haveEL3 = false))) := by
  cases hE : w.value E with
  | some v => exact .inl (congrArg some (View.ownerBit_of_value hE _).symm)
  | none =>
    cases himpl : impl w.cfg E with
    | false => exact .inr ⟨rfl, .inl (View.ownerBit_of_not_impl himpl _)⟩
    | true =>
      have hel3 : w.cfg.haveEL3 = false := by
        rw [Bool.eq_false_iff]
        intro hel3
        rw [View.value_of_exists_of_impl (View.exists_of_value_of_EL3 hN hel3) himpl] at hE
        cases hE
      exact .inr ⟨rfl, (View.ownerBit_of_none hE drawn).imp_right fun h1 => ⟨h1, rfl, hel3⟩⟩

/-- A one-bit E bit is 0 or 1, with a value or without. -/
theorem View.ownerBit_cases {w : View} {E : Field} (hwidth : fieldWidth E = 1) (drawn : Bool) :
    w.ownerBit E drawn = 0 ∨ w.ownerBit E drawn = 1 := by
  rcases View.value_cases_one (w := w) hwidth with h | h | h
  · exact View.ownerBit_of_none h _
  · exact .inl (View.ownerBit_of_value h _)
  · exact .inr (View.ownerBit_of_value h _)

section ProfilingBuffer

variable {w : View} {N : Word}

theorem View.nspbe_of_value (hN : w.value .NSPB = some N) :
    w.value .NSPBE = some w.nspbe ∨ (w.value .NSPBE = none ∧
      (w.nspbe = 0 ∨ (w.nspbe = 1 ∧ impl w.cfg .NSPBE = true ∧ w.cfg.haveEL3 = false))) :=
  View.ownerBit_of_acting_partner hN _

theorem View.nspbe_cases (w : View) : w.nspbe = 0 ∨ w.nspbe = 1 := View.ownerBit_cases rfl _

/-- NSPB's variant 1, of FEAT_RME, is the one with reserved pairs (R243, R244). -/
theorem View.pbReserved_iff (hN : w.value .NSPB = some N) : w.pbReserved = true ↔
    w.cfg.FEAT_RME = true ∧ (N = 0 ∨ N = 1) ∧ (w.nspbe = 1 ∨ w.cfg.haveSecureState = false) := by
  have hspe : w.cfg.FEAT_SPE = true := View.impl_of_value hN
  have hvar : variant w.cfg .NSPB = 1 ↔ w.cfg.FEAT_RME = true := by simp [variant, hspe]
  rw [← pairReserved_iff w.nspbe_cases, ← hvar]
  simp [View.pbReserved, View.has_of_value hN, View.fld_of_value hN]

theorem View.pbOwner_of_value (hN : w.value .NSPB = some N) :
    w.pbOwner = if w.nspbe = 1 then .Realm else if N = 0 ∨ N = 1 then .Secure else .NonSecure := by
  have hlow : 2 ≤ N ↔ ¬(N = 0 ∨ N = 1) := by rw [← word_lt_two_iff, BitVec.not_lt]
  simp only [View.pbOwner, View.fld_of_value hN, hlow, ite_not, beq_iff_eq]

theorem View.pbTrapAll_of_value (hN : w.value .NSPB = some N) : w.pbTrapAll = true ↔ N = 0 ∨ N = 2 := by
  simp [View.pbTrapAll, View.fld_of_value hN]

/-- The registers of the Statistical Profiling Unit that MRS and MSR reach (R245). -/
theorem mem_pbRegs {n : RegName} {c : Config} : n ∈ pbRegs c ↔
    n ∈ [RegName.PMBLIMITR_EL1, .PMBPTR_EL1, .PMBSR_EL1, .PMSCR_EL1, .PMSCR_EL2, .PMSCR_EL12, .PMSEVFR_EL1,
      .PMSFCR_EL1, .PMSICR_EL1, .PMSIRR_EL1, .PMSLATFR_EL1] ∨
    (n = .PMSNEVFR_EL1 ∧ c.FEAT_SPE_FnE = true) ∨ (n = .PMSDSFR_EL1 ∧ c.FEAT_SPE_FDS = true) ∨
    (n ∈ [RegName.PMBSR_EL2, .PMBSR_EL12] ∧ c.FEAT_SPE_EXC = true) ∨ (n = .PMBMAR_EL1 ∧ c.FEAT_SPE_nVM = true) := by
  simp only [pbRegs, List.flatten_cons, List.flatten_nil, List.append_nil, List.mem_append, mem_regsIf,
    List.mem_singleton, and_comm]

/-- PMSIDR_EL1 is the one register that only MRS reaches (R245). -/
theorem pbAccess_iff {c : Config} {a : Access} : pbAccess c a = true ↔
    ((a.instr = .MRS ∨ a.instr = .MSR) ∧ a.reg.name ∈ pbRegs c) ∨ (a.instr = .MRS ∧ a.reg.name = .PMSIDR_EL1) := by
  simp [pbAccess]

theorem profilingBufferUse_of_not_reserved (hN : w.value .NSPB = some N) (hres : w.pbReserved = false) :
    profilingBufferUse w = some (.owner w.pbOwner) := by
  simp [profilingBufferUse, View.has_of_value hN, hres]

/-- The accesses that a pair which is not reserved traps: all of them at NSPB[0] = 0, else those of other states. -/
theorem trapNSPB_of_not_reserved (hN : w.value .NSPB = some N) (hres : w.pbReserved = false) (a : Access) :
    trapNSPB w a = if registerExists w.cfg = true ∧ a.state = .AArch64 ∧ pbAccess w.cfg a = true ∧
      (a.el = .EL1 ∨ a.el = .EL2) ∧ (N = 0 ∨ N = 2 ∨ a.ss ≠ w.pbOwner) then some 0x18 else none :=
  trapWhen_eq _ (by simp [View.has_of_value hN, hres, View.pbTrapAll_of_value hN, and_assoc, or_assoc])

end ProfilingBuffer

/-- Settles O35, with NSPBE as it acts beside NSPB for the E bit. -/
theorem profilingBufferOwnerTable : Obligations.ProfilingBufferOwnerTable := by
  unfold Obligations.ProfilingBufferOwnerTable
  refine ⟨rfl, rfl, fun c ns himpl => ?effective, fun w N hN => ⟨w.nspbe, View.nspbe_of_value hN,
    View.pbReserved_iff hN, fun hres o ho => ?defined⟩⟩
  case effective => rw [effectiveNoEL3_of_impl ns himpl]; simp
  case defined =>
    rw [← View.pbOwner_of_value hN] at ho
    subst ho
    refine ⟨profilingBufferUse_of_not_reserved hN hres, fun ss hroot => ?_, fun a => ?_⟩
    · rw [profilingDisabled, profilingBufferUse_of_not_reserved hN hres, excludedBy_owner, if_neg hroot]
    · simp only [trapNSPB_of_not_reserved hN hres, pbAccess_iff, mem_pbRegs]

end Sys2Proof.Machine
end

section
/-! PROOFS. The host's entry and return (O23, O24), and the FGWTE3 lock (O10). -/

namespace Sys2Proof.Machine

/-! ## The host's entry (R301, R303, R314) -/

theorem State.handOver_trapToEL3_of_entry {s : State} {e : HostEntry} (h : s.env.trapEntry = some e) (ec : EC) :
    s.handOver (.fault (.trapToEL3 ec)) = .next (s.takeTrapToEL3 ec e) := by
  rw [State.handOver_trapToEL3, h]
  rfl

theorem State.handOver_trapToEL3_of_none {s : State} (h : s.env.trapEntry = none) (ec : EC) :
    s.handOver (.fault (.trapToEL3 ec)) = .fault (.trapToEL3 ec) := by
  rw [State.handOver_trapToEL3, h]
  rfl

theorem State.handOver_undefined_of_entry {s : State} {e : HostEntry} (h : s.env.undefinedEntry = some e) :
    s.handOver (.fault .undefined) = .next (s.takeUndefined e) := by
  rw [State.handOver_undefined, h]
  rfl

/-- Settles O23, with the state that each entry leaves. -/
theorem trapEntryGoesToEL3 : Obligations.TrapEntryGoesToEL3 := by
  unfold Obligations.TrapEntryGoesToEL3
  refine ⟨fun s ec e h => ⟨s.takeTrapToEL3 ec e, State.handOver_trapToEL3_of_entry h ec, ?trap⟩,
    fun s e h => ⟨s.takeUndefined e, State.handOver_undefined_of_entry h, ?undefined⟩⟩
  case trap => simp
  case undefined => simp

/-- Settles O24, with the state that the return leaves. -/
theorem exceptionReturnSynchronizes : Obligations.ExceptionReturnSynchronizes := by
  unfold Obligations.ExceptionReturnSynchronizes
  exact fun s e => ⟨s.returnException e, rfl, by simp⟩

/-! ## The lock (R304) -/

theorem State.writeLocked_iff {s : State} :
    s.writeLocked = true ↔ s.cfg.FEAT_FGWTE3 = true ∧ s.env.fgwte3 = true := by
  simp [State.writeLocked]

/-- Where the register exists the one check of an accessor is the Exception level (R140, R141). -/
theorem State.accessorDefined_iff_of_exists {s : State} (h : registerExists s.cfg = true) :
    s.accessorDefined = true ↔ s.el = .EL3 := by
  simp [State.accessorDefined, State.atEL3, h]

/-- Only a locked `MSR` that passes its checks traps to EL3, and with EC 0x18. -/
theorem exec_eq_trapToEL3_iff {i : Instr} {s : State} {ec : EC} : exec i s = .fault (.trapToEL3 ec) ↔
    s.pc ≠ pcTop ∧ s.accessorDefined = true ∧ s.writeLocked = true ∧ ec = 0x18 ∧ ∃ n, i = .msr n := by
  simp [exec_eq_fault]

/-- Settles O10: the trap by its inversion, and below EL3 the accessor's check fails before the lock is read. -/
theorem writeLockTrapsMsrOnly : Obligations.WriteLockTrapsMsrOnly := by
  unfold Obligations.WriteLockTrapsMsrOnly
  refine fun t s hpc hx => ⟨fun hel hfeat hlock => ?locked, fun ec h => ?only, fun hel => ?below, fun ec h => ?mrs⟩
  case locked =>
    have htrap : exec (.msr t) s = .fault (.trapToEL3 0x18) := exec_eq_trapToEL3_iff.2
      ⟨hpc, (State.accessorDefined_iff_of_exists hx).2 hel, State.writeLocked_iff.2 ⟨hfeat, hlock⟩, rfl, t, rfl⟩
    refine ⟨htrap, fun u hu => ?_⟩
    rw [htrap] at hu
    obtain h | ⟨h, -⟩ | ⟨ec, e, -, -, rfl⟩ := State.handOver_eq_next.1 hu
    · cases h
    · cases h
    · exact ⟨State.takeTrapToEL3_mdcr s ec e, State.takeTrapToEL3_el s ec e⟩
  case only =>
    obtain ⟨-, hdef, hlocked, hec, -⟩ := exec_eq_trapToEL3_iff.1 h
    exact ⟨hec, (State.accessorDefined_iff_of_exists hx).1 hdef, State.writeLocked_iff.1 hlocked⟩
  case below => rw [exec_of_not_accessorDefined (accessorDefined_of_el_ne hel), if_neg hpc]
  case mrs =>
    obtain ⟨-, -, -, -, n, hn⟩ := exec_eq_trapToEL3_iff.1 h
    cases hn

end Sys2Proof.Machine
end

section
/-! PROOFS. The EC of a trapped access (O25), and software's access in a step (O26): the EC is a function of the access
alone, by the family of its register, and each of the nineteen controls reports it or nothing. -/

namespace Sys2Proof.Machine

/-! ## The EC of an access (R302, R307) -/

/-- The families of registers that AArch32 controls trap. -/
inductive TrapFamily where
  /-- TTRF (R221). -/
  | traceFilter
  /-- TDCC and TDA (R202, R253). -/
  | debug
  /-- TDOSA, with what an implementation adds under no name of a rule (R248, R249). -/
  | powerDown
  /-- TPM (R257). -/
  | monitors
  /-- The registers of AArch64 names. -/
  | aarch64
  deriving DecidableEq

/-- The family of a register, by its name. -/
def trapFamily (n : RegName) : TrapFamily :=
  if n ∈ [RegName.HTRFCR, .TRFCR] then .traceFilter
  else if n ∈ tdaA32Regs ∨ n ∈ dccA32NonDebug then .debug
  else if n ∈ [RegName.DBGOSLAR, .DBGOSLSR, .DBGPRCR, .DBGOSDLR, .OTHER] then .powerDown
  else if n ∈ tpmA32RW ∨ n ∈ [RegName.PMCEID2, .PMCEID3, .PMMIR] then .monitors
  else .aarch64

/-- The EC that each family reports of an AArch32 access (R202, R221, R250, R254, R257). -/
def familyEC (a : Access) : TrapFamily → EC
  | .traceFilter => 0x03
  | .debug =>
    if a.instr = .LDC ∨ a.instr = .STC then 0x06
    else if a.instr = .MRRC then 0x0C
    else if a.coproc = 0b1111 then 0x03 else 0x05
  | .powerDown => 0x05
  | .monitors => if a.instr = .MRRC ∨ a.instr = .MCRR then 0x04 else 0x03
  | .aarch64 => 0x18

/-- The EC of an access, whichever control traps it. -/
def reportedEC (a : Access) : EC := if a.state = .AArch64 then 0x18 else familyEC a (trapFamily a.reg.name)

theorem reportedEC_of_AArch64 {a : Access} (h : a.state = .AArch64) : reportedEC a = 0x18 := if_pos h

theorem reportedEC_of_AArch32 {a : Access} (h : a.state = .AArch32) :
    reportedEC a = familyEC a (trapFamily a.reg.name) := if_neg (by simp [h])

/-- A register of an AArch64 name is reported with 0x18 in either Execution state. -/
theorem reportedEC_of_aarch64_name {a : Access} (h : trapFamily a.reg.name = .aarch64) : reportedEC a = 0x18 := by
  rw [reportedEC, h]
  exact ite_self _

/-! ### The registers of each family: no register is in two -/

theorem trapFamily_of_traceFilter : ∀ n ∈ [RegName.HTRFCR, .TRFCR], trapFamily n = .traceFilter := by decide

theorem trapFamily_of_tdaA32Regs : ∀ n ∈ tdaA32Regs, trapFamily n = .debug := by decide

theorem trapFamily_of_dccA32Always : ∀ n ∈ dccA32Always, trapFamily n = .debug := by decide

theorem trapFamily_of_dccA32NonDebug : ∀ n ∈ dccA32NonDebug, trapFamily n = .debug := by decide

theorem trapFamily_of_powerDown :
    ∀ n ∈ [RegName.DBGOSLAR, .DBGOSLSR, .DBGPRCR, .DBGOSDLR, .OTHER], trapFamily n = .powerDown := by decide

theorem trapFamily_of_tpmA32RW : ∀ n ∈ tpmA32RW, trapFamily n = .monitors := by decide

theorem trapFamily_of_tpmA32RO {c : Config} {n : RegName} (h : n ∈ tpmA32RO c) : trapFamily n = .monitors := by
  have hnames : ∀ m ∈ [RegName.PMCEID2, .PMCEID3], trapFamily m = .monitors := by decide
  rcases mem_tpmA32RO.1 h with ⟨hn, -⟩ | ⟨rfl, -⟩
  · exact hnames n hn
  · rfl

/-! ### The debug registers, which TDCC and TDA share (R202, R254) -/

/-- Of a move the coprocessor decides the EC. -/
theorem reportedEC_of_debug_move {a : Access} (hstate : a.state = .AArch32) (hi : a.instr = .MRC ∨ a.instr = .MCR)
    (hfam : trapFamily a.reg.name = .debug) : reportedEC a = if a.coproc = 0b1111 then 0x03 else 0x05 := by
  rw [reportedEC_of_AArch32 hstate, hfam]
  rcases hi with hi | hi <;> simp [familyEC, hi]

theorem reportedEC_of_debug_memory {a : Access} (hstate : a.state = .AArch32)
    (h : (a.instr = .LDC ∧ a.reg.name = .DBGDTRTXint) ∨ (a.instr = .STC ∧ a.reg.name = .DBGDTRRXint)) :
    reportedEC a = 0x06 := by
  have hfam : trapFamily a.reg.name = .debug := by rcases h with ⟨-, hreg⟩ | ⟨-, hreg⟩ <;> rw [hreg] <;> rfl
  rw [reportedEC_of_AArch32 hstate, hfam]
  exact if_pos (h.imp And.left And.left)

/-- The moves of TDA are of the debug registers (R253). -/
theorem trapFamily_of_tdaA32Move {a : Access} (hstate : a.state = .AArch32) (hi : a.instr = .MRC ∨ a.instr = .MCR)
    (h : tdaA32Access a = true) : trapFamily a.reg.name = .debug := by
  rcases (tdaA32Access_iff_of_move hstate hi).1 h with hreg | ⟨-, -, hreg⟩ | ⟨-, -, hreg⟩
  · exact trapFamily_of_tdaA32Regs _ hreg
  · rw [hreg]; rfl
  · rw [hreg]; rfl

/-! ### Each control reports the EC of the access, or nothing -/

/-- A control traps the access with its EC, or does not trap it. -/
def Reports (a : Access) (r : Option EC) : Prop := ∀ ec, r = some ec → ec = reportedEC a

section Controls

variable {w : View} {a : Access}

theorem reports_none : Reports a none := fun _ h => by cases h

theorem reports_some {ec : EC} (h : reportedEC a = ec) : Reports a (some ec) := fun _ h' => by cases h'; exact h.symm

theorem reports_ite {p : Prop} [Decidable p] {r r' : Option EC} (h : p → Reports a r) (h' : ¬p → Reports a r') :
    Reports a (if p then r else r') := by
  split
  case isTrue hp => exact h hp
  case isFalse hp => exact h' hp

theorem reports_trapWhen {b : Bool} {ec : EC} (h : b = true → reportedEC a = ec) : Reports a (trapWhen b ec) :=
  reports_ite (fun hb => reports_some (h hb)) (fun _ => reports_none)

/-- A control of AArch64 accesses alone. -/
theorem reports_of_AArch64 {b : Bool} (h : b = true → a.state = .AArch64) : Reports a (trapWhen b 0x18) :=
  reports_trapWhen fun hb => reportedEC_of_AArch64 (h hb)

/-- A control of registers of AArch64 names, whatever the Execution state. -/
theorem reports_of_aarch64_name {b : Bool} {l : List RegName} (hl : ∀ n ∈ l, trapFamily n = .aarch64)
    (h : b = true → a.reg.name ∈ l) : Reports a (trapWhen b 0x18) :=
  reports_trapWhen fun hb => reportedEC_of_aarch64_name (hl _ (h hb))

/-- The shape of the six enables with a stated EC (R160, R167, R169, R171, R173, R175). -/
theorem reports_enable (f : Field) (l : List RegName) :
    Reports a (trapWhen (w.isClear f && isA64Move a && a.reg.isIn l && atEL1or2 a) 0x18) :=
  reports_of_AArch64 (by simp +contextual)

theorem reports_trapTRBEE : Reports a (trapTRBEE w a) :=
  reports_of_aarch64_name (l := [.TRBSR_EL2]) (by decide) (by simp +contextual)

theorem reports_trapPMSEE : Reports a (trapPMSEE w a) :=
  reports_of_aarch64_name (l := [.PMBSR_EL2]) (by decide) (by simp +contextual)

theorem reports_trapEnSTEPOP : Reports a (trapEnSTEPOP w a) :=
  reports_of_aarch64_name (l := [.MDSTEPOP_EL1]) (by decide) (by simp +contextual)

theorem reports_trapEnPMSN : Reports a (trapEnPMSN w a) :=
  reports_of_aarch64_name (l := [.PMSNEVFR_EL1]) (by decide) (by simp +contextual)

theorem reports_trapSBRBE : Reports a (trapSBRBE w a) := by
  refine reports_of_aarch64_name (l := brbeRegs ++ [.BRB_IALL, .BRB_INJ]) (by decide) fun h => ?_
  simp only [Bool.and_eq_true, Bool.or_eq_true, isIn_iff] at h
  obtain ⟨⟨-, ⟨-, hreg⟩ | ⟨-, hreg⟩⟩, -⟩ := h
  · exact List.mem_append_left _ hreg
  · exact List.mem_append_right _ hreg

theorem reports_trapTDCC : Reports a (trapTDCC w a) := by
  intro ec h
  obtain ⟨-, -, ⟨⟨hstate, -⟩, rfl⟩ | ⟨⟨hstate, hi, hcoproc, hreg⟩, rfl⟩ | ⟨⟨hstate, -, hmem⟩, rfl⟩⟩ :=
    trapTDCC_eq_some_iff.1 h
  · exact (reportedEC_of_AArch64 hstate).symm
  · have hfam : trapFamily a.reg.name = .debug :=
      hreg.elim (trapFamily_of_dccA32Always _) fun h => trapFamily_of_dccA32NonDebug _ h.2
    rw [reportedEC_of_debug_move hstate hi hfam, hcoproc]
    rfl
  · exact (reportedEC_of_debug_memory hstate hmem).symm

theorem reports_trapNSTB : Reports a (trapNSTB w a) := reports_of_AArch64 (by simp +contextual)

theorem reports_trapNSPB : Reports a (trapNSPB w a) := reports_of_AArch64 (by simp +contextual)

theorem reports_trapTTRF : Reports a (trapTTRF w a) := by
  intro ec h
  obtain ⟨-, -, ⟨hstate, -, rfl⟩ | ⟨hstate, hreg, rfl⟩⟩ := trapTTRF_eq_some_iff.1 h
  · exact (reportedEC_of_AArch64 hstate).symm
  · rw [reportedEC_of_AArch32 hstate, trapFamily_of_traceFilter _ hreg]
    rfl

/-- TDOSA's AArch32 registers are of its family as long as those that the implementation adds are no rule's. -/
theorem trapFamily_of_tdosaA32 {c : Config} {r : SysReg} (hextra : ∀ r ∈ c.tdosaExtraA32, r.name = .OTHER)
    (h : tdosaA32 c r = true) : trapFamily r.name = .powerDown := by
  apply trapFamily_of_powerDown
  rcases tdosaA32_iff.1 h with h | ⟨h, -⟩ | h
  · exact List.mem_append_left [.DBGOSDLR, .OTHER] h
  · simp [h]
  · simp [hextra r h]

theorem reports_trapTDOSA (hextra : ∀ r ∈ w.cfg.tdosaExtraA32, r.name = .OTHER) (el2 : Bool) :
    Reports a (trapTDOSA w el2 a) := by
  rw [trapTDOSA_eq]
  refine reports_ite (fun _ => reports_ite ?a64 fun _ => reports_ite ?a32 fun _ => reports_none) fun _ => reports_none
  case a64 => exact fun ⟨hstate, _⟩ => reports_some (reportedEC_of_AArch64 hstate)
  case a32 =>
    rintro ⟨hstate, -, hreg⟩
    refine reports_some ?_
    rw [reportedEC_of_AArch32 hstate, trapFamily_of_tdosaA32 hextra hreg]
    rfl

theorem reports_trapTDA : Reports a (trapTDA w a) := by
  by_cases hact : w.value .TDA ≠ some 1 ∨ a.el = .EL3
  case pos => rw [trapTDA_of_not_acting hact]; exact reports_none
  obtain ⟨hv, hel⟩ := not_or.1 hact
  rw [not_ne_iff] at hv
  cases hstate : a.state with
  | AArch64 =>
    rw [trapTDA_of_AArch64 hv hel hstate]
    exact reports_ite (fun _ => reports_some (reportedEC_of_AArch64 hstate)) fun _ => reports_none
  | AArch32 =>
    by_cases hi : a.instr = .MRC ∨ a.instr = .MCR
    case pos =>
      rw [trapTDA_of_move hv hel hstate hi]
      refine reports_ite (fun h => ?_) fun _ => reports_none
      have hEC := reportedEC_of_debug_move hstate hi (trapFamily_of_tdaA32Move hstate hi h)
      exact reports_ite (fun hc => reports_some (hEC.trans (if_pos hc))) fun hc =>
        reports_ite (fun _ => reports_some (hEC.trans (if_neg hc))) fun _ => reports_none
    case neg =>
      obtain ⟨hmrc, hmcr⟩ := not_or.1 hi
      rw [trapTDA_of_not_move hv hel hstate hmrc hmcr]
      refine reports_ite (fun h => reports_some (reportedEC_of_debug_memory hstate h.symm)) fun _ =>
        reports_ite (fun h => reports_some ?pair) fun _ => reports_none
      case pair =>
        obtain ⟨hi, hreg⟩ := h
        have hfam : trapFamily a.reg.name = .debug := by rcases hreg with hreg | hreg <;> rw [hreg] <;> rfl
        rw [reportedEC_of_AArch32 hstate, hfam]
        simp [familyEC, hi]

theorem reports_trapEnPM2 : Reports a (trapEnPM2 w a) := by
  rw [trapEnPM2_eq]
  exact reports_ite (fun ⟨_, hstate, _⟩ => reports_some (reportedEC_of_AArch64 hstate)) fun _ => reports_none

theorem reports_trapTPM : Reports a (trapTPM w a) := by
  by_cases hact : w.value .TPM ≠ some 1 ∨ a.el = .EL3
  case pos => rw [trapTPM_of_not_acting hact]; exact reports_none
  obtain ⟨hv, hel⟩ := not_or.1 hact
  rw [not_ne_iff] at hv
  cases hstate : a.state with
  | AArch64 =>
    rw [trapTPM_of_AArch64 hv hel hstate]
    exact reports_ite (fun _ => reports_some (reportedEC_of_AArch64 hstate)) fun _ => reports_none
  | AArch32 =>
    rw [trapTPM_of_AArch32 hv hel hstate]
    refine reports_ite (fun h => reports_some ?move) fun _ =>
      reports_ite (fun h => reports_some ?pair) fun _ => reports_none <;> rw [reportedEC_of_AArch32 hstate]
    case move =>
      have hfam : trapFamily a.reg.name = .monitors :=
        h.elim (fun h => trapFamily_of_tpmA32RW _ h.2) fun h => trapFamily_of_tpmA32RO h.2
      have hi : a.instr = .MRC ∨ a.instr = .MCR := h.elim And.left fun h => .inl h.1
      rw [hfam]
      rcases hi with hi | hi <;> simp [familyEC, hi]
    case pair =>
      obtain ⟨hi, hreg⟩ := h
      rw [hreg, show trapFamily .PMCCNTR = .monitors from rfl]
      exact if_pos hi

/-- Each of the nineteen controls, in R305's order. -/
theorem reports_of_mem_trapResults (hextra : ∀ r ∈ w.cfg.tdosaExtraA32, r.name = .OTHER) (el2 : Bool) :
    ∀ r ∈ trapResults w el2 a, Reports a r := by
  simp only [trapResults, List.forall_mem_cons]
  exact ⟨reports_enable _ _, reports_trapTRBEE, reports_trapPMSEE, reports_trapEnSTEPOP, reports_enable _ _,
    reports_enable _ _, reports_enable _ _, reports_enable _ _, reports_enable _ _, reports_trapEnPMSN,
    reports_trapSBRBE, reports_trapTDCC, reports_trapNSTB, reports_trapTTRF, reports_trapNSPB,
    reports_trapTDOSA hextra el2, reports_trapTDA, reports_trapEnPM2, reports_trapTPM, List.forall_mem_nil _⟩

theorem mem_trapCandidates {el2 : Bool} {ec : EC} :
    ec ∈ trapCandidates w el2 a ↔ some ec ∈ trapResults w el2 a := by
  simp [trapCandidates]

/-- Whichever control matches, its EC is the one that the access has. -/
theorem eq_reportedEC_of_mem_trapCandidates (hextra : ∀ r ∈ w.cfg.tdosaExtraA32, r.name = .OTHER) {el2 : Bool}
    {ec : EC} (h : ec ∈ trapCandidates w el2 a) : ec = reportedEC a :=
  reports_of_mem_trapResults hextra el2 _ (mem_trapCandidates.1 h) ec rfl

end Controls

/-- Settles O25: the EC of every match is a function of the access. -/
theorem matchingControlsAgreeOnTheEC : Obligations.MatchingControlsAgreeOnTheEC := by
  unfold Obligations.MatchingControlsAgreeOnTheEC
  intro w el2 a hextra
  have hEC : ∀ ec ∈ trapCandidates w el2 a, ec = reportedEC a := fun _ => eq_reportedEC_of_mem_trapCandidates hextra
  exact ⟨fun ec h ec' h' => (hEC ec h).trans (hEC ec' h').symm,
    fun hstate ec h => (hEC ec h).trans (reportedEC_of_AArch64 hstate)⟩

/-! ## Software's access in a step (R305, R309) -/

/-- At EL3 every control's condition on the Exception level fails. -/
theorem trapResults_at_EL3 {a : Access} (h : a.el = .EL3) (w : View) (el2 : Bool) :
    trapResults w el2 a = List.replicate 19 none := by
  have hbelow : belowEL3 a = false := by simp [belowEL3, h]
  have hat : atEL1or2 a = false := by simp [atEL1or2, h]
  simp [trapResults, trapEnPMS4, trapTRBEE, trapPMSEE, trapEnSTEPOP, trapEnITE, trapEnPMSS, trapEBWE, trapEnPMS3,
    trapEnTB2, trapEnPMSN, trapSBRBE, trapTDCC, trapNSTB, trapTTRF, trapNSPB, trapTDOSA, trapTDA, trapEnPM2, trapTPM,
    trapWhen, hbelow, hat, h, List.replicate]

theorem trapCandidates_at_EL3 {a : Access} (h : a.el = .EL3) (w : View) (el2 : Bool) : trapCandidates w el2 a = [] := by
  simp [trapCandidates, trapResults_at_EL3 h]

section AccessEvent

variable {s : State} {q : AccessReq} {higher el2 : Bool}

theorem accessEvent_of_no_match (h : trapCandidates s.view el2 (s.accessRecord q) = []) :
    accessEvent q higher el2 s = .next (s.announce .proceeds) := by
  simp [accessEvent, accessOutcome, h]

theorem accessEvent_of_match {ec : EC} {rest : List EC}
    (h : trapCandidates s.view el2 (s.accessRecord q) = ec :: rest) :
    accessEvent q higher el2 s =
      if higher then .next (s.announce .otherException) else s.draw.handOver (.fault (.trapToEL3 ec)) := by
  cases higher <;> simp [accessEvent, accessOutcome, h, raiseTrapToEL3]

end AccessEvent

/-- Settles O26: no control matches at EL3, and of several that match the first gives the exception handed over. -/
theorem accessesFollowTheTrapRule : Obligations.AccessesFollowTheTrapRule := by
  unfold Obligations.AccessesFollowTheTrapRule
  refine fun s q higher el2 => ⟨fun hel => trapCandidates_at_EL3 hel s.view el2, accessEvent_of_no_match,
    fun hne hhigher => ?other, fun hne hhigher => ?trap⟩ <;>
    obtain ⟨ec, rest, hcands⟩ := List.exists_cons_of_ne_nil hne
  case other => exact (accessEvent_of_match hcands).trans (if_pos hhigher)
  case trap =>
    have hevent : hostEvent (.access q higher el2) s = s.draw.handOver (.fault (.trapToEL3 ec)) :=
      (accessEvent_of_match hcands).trans (if_neg (by simp [hhigher]))
    refine ⟨ec, hcands ▸ List.mem_cons_self, fun hentry => ?_, fun e hentry => ?_⟩ <;> rw [hevent]
    · exact State.handOver_trapToEL3_of_none (s := s.draw) hentry ec
    · exact ⟨s.draw.takeTrapToEL3 ec e, State.handOver_trapToEL3_of_entry (s := s.draw) hentry ec, by simp⟩

end Sys2Proof.Machine
end

section
/-! PROOFS. External debugger accesses after a reset (O40): ETBAD, EPMSSAD and the fields of the pairs all reset to 0. -/

namespace Sys2Proof.Machine

/-- A view of the register as a reset leaves it (R342). -/
def View.AfterReset (w : View) : Prop :=
  registerExists w.cfg = true ∧
    ∃ u r old, w.bits = warmResetBits w.cfg u r old ∨ w.bits = coldResetBits w.cfg u r old

section AfterReset

variable {w : View} {f : Field} {e : ExtAccess}

/-- A field that either reset clears acts as 0, if it acts (R75). -/
theorem View.AfterReset.value_eq (h : w.AfterReset) (hf : resetClass f = .warmZero) (hact : w.has f = true) :
    w.value f = some 0 := by
  obtain ⟨hx, u, r, old, hbits⟩ := h
  obtain ⟨v, hv⟩ := View.has_iff.1 hact
  have himpl : impl w.cfg f = true := View.impl_of_value hv
  rw [View.value_of_exists_of_impl hx himpl]
  rcases hbits with hbits | hbits <;> rw [hbits]
  · rw [fieldOf_warmResetBits_of_warmZero himpl hf]
  · rw [fieldOf_coldResetBits_of_warmZero himpl hf]

theorem View.AfterReset.isSet_eq_false (h : w.AfterReset) (hf : resetClass f = .warmZero) : w.isSet f = false := by
  rw [Bool.eq_false_iff, ne_eq, View.isSet_iff]
  intro hv
  simp [h.value_eq hf (View.has_of_value hv)] at hv

/-! ## ETAD, EPMAD and EDAD: nothing is prohibited while no bit of the pair is set (R210, R213 to R215, R217 to R220) -/

theorem xadProhibits_of_unset (attr : SecState) : xadProhibits false false attr = false := rfl

theorem etadProhibits_of_unset (hE : w.isSet .ETADE = false) (hD : w.isSet .ETAD = false) :
    etadProhibits w e = false := by
  unfold etadProhibits
  split <;> simp [hE, hD, xadProhibits_of_unset]

theorem epmadProhibits_of_unset (hE : w.isSet .EPMADE = false) (hD : w.isSet .EPMAD = false) :
    epmadProhibits w e = false := by
  unfold epmadProhibits
  split <;> simp [hE, hD, xadProhibits_of_unset]

theorem edadProhibits_of_unset (hE : w.isSet .EDADE = false) (hD : w.isSet .EDAD = false) :
    edadProhibits w e = false := by
  unfold edadProhibits
  split <;> simp [hE, hD, xadProhibits_of_unset]

/-! ## ETBAD and EPMSSAD at 0 (R166, R168) -/

theorem disableStops_of_zero (hv : w.value f = some 0) (zero : Bool) (attr : SecState) :
    w.disableStops f zero attr =
      (attr == .NonSecure || (w.cfg.FEAT_RME && (attr == .Secure || attr == .Realm))) := by
  rw [Bool.eq_iff_iff, disableStops_iff_of_defined (.inr (by simp [hv])), View.Disables, hv]
  simp

theorem etbadProhibits_of_mem (hreg : e.reg ∈ w.cfg.traceBufferRegs) :
    etbadProhibits w e = w.disableStops .ETBAD (Config.freeEtbadZero w.k) e.attr := by
  rw [Bool.eq_iff_iff, etbadProhibits_iff, and_iff_right hreg]

theorem epmssadProhibits_of_mem (hreg : e.reg.name ∈ [RegName.PMCCNTSVR_EL1, .PMEVCNTSVRn_EL1, .PMSSCR_EL1] ∨
    (e.reg.name = .PMICNTSVR_EL1 ∧ w.cfg.FEAT_PMUv3_ICNTR = true)) :
    epmssadProhibits w e = w.disableStops .EPMSSAD (Config.freeEpmssadZero w.k) e.attr := by
  rw [Bool.eq_iff_iff, epmssadProhibits_iff, and_iff_right hreg]

end AfterReset

/-- Settles O40: each of the fields resets to 0, which sets no bit of a pair and is the most a disable stops. -/
theorem resetLeavesDebuggerAccessAsStated : Obligations.ResetLeavesDebuggerAccessAsStated := by
  unfold Obligations.ResetLeavesDebuggerAccessAsStated
  intro w e u r old hx hbits
  have h : w.AfterReset := ⟨hx, u, r, old, hbits⟩
  refine ⟨etadProhibits_of_unset (h.isSet_eq_false rfl) (h.isSet_eq_false rfl),
    epmadProhibits_of_unset (h.isSet_eq_false rfl) (h.isSet_eq_false rfl),
    edadProhibits_of_unset (h.isSet_eq_false rfl) (h.isSet_eq_false rfl), fun hact hreg => ?etbad,
    fun hact hreg => ?epmssad⟩
  case etbad => rw [etbadProhibits_of_mem hreg, disableStops_of_zero (h.value_eq rfl hact)]
  case epmssad => rw [epmssadProhibits_of_mem hreg, disableStops_of_zero (h.value_eq rfl hact)]

end Sys2Proof.Machine
end

section
/-! PROOFS. Reset (O18, O55, O56, O57, O60): what a reset leaves of each field and of the whole register, the state
after it, and what the three exception enables do at 0. -/

namespace Sys2Proof.Machine

section Fields

variable {c : Config} {f : Field}

/-! ## An UNKNOWN field holds the draw (R75, R342) -/

theorem fieldOf_coldValue_of_warmUnknown (hf : resetClass f = .warmUnknown) : fieldOf f coldValue = 0 := by
  rw [coldValue_eq]
  cases f <;> cases hf <;> decide

theorem fieldOf_warmResetBits_of_warmUnknown (h : impl c f = true) (hf : resetClass f = .warmUnknown)
    (u r old : Word) : fieldOf f (warmResetBits c u r old) = fieldOf f u := by
  simp [fieldOf_warmResetBits h, isCold, hf]

theorem fieldOf_coldResetBits_of_warmUnknown (h : impl c f = true) (hf : resetClass f = .warmUnknown)
    (u r old : Word) : fieldOf f (coldResetBits c u r old) = fieldOf f u := by
  simp [fieldOf_coldResetBits h, fieldOf_coldValue_of_warmUnknown hf, fieldOf_warmResetBits_of_warmUnknown h hf,
    isCold, hf]

/-! ## A Cold reset of the whole register (R342) -/

/-- Outside RES0 storage a Cold reset leaves no RES0 bit (R29). -/
theorem coldResetBits_and_res0 (u r old : Word) :
    coldResetBits c u r old &&& res0Mask c &&& ~~~c.RES0_STORAGE_MASK = 0 := by
  rw [BitVec.and_assoc, res0Mask, ← BitVec.not_or, ← keepMask]
  exact coldResetBits_within c u r old

theorem auMask_and_coldMask : auMask &&& coldMask = 0 := by
  rw [auMask_eq, coldMask_eq]
  decide

/-- Without RES0 storage nothing of the old value or of its draw is left: the draw stands in the UNKNOWN fields,
`COLD_VALUE` in the others. -/
theorem coldResetBits_of_no_storage (hs : c.RES0_STORAGE_MASK = 0) (u r old : Word) :
    coldResetBits c u r old = (u &&& auMask ||| coldValue) &&& implMask c := by
  unfold coldResetBits warmResetBits
  rw [hs]
  ext i hi
  have hdisjoint := congrArg (fun w : Word => w[i]) auMask_and_coldMask
  simp at hdisjoint ⊢
  grind

end Fields

theorem implMask_cfgMin : implMask cfgMin = 0x00110600 := by decide +kernel

/-- Under CFG_ALL the bits outside the UNKNOWN fields hold `COLD_VALUE`. -/
theorem coldResetBits_cfgAll (u r old : Word) :
    coldResetBits cfgAll u r old &&& ~~~0x008494930F09FEC0 = 0x0000000010000000 := by
  have hu : u &&& auMask &&& (implMask cfgAll &&& ~~~0x008494930F09FEC0) = 0 := by
    have hmasks : auMask &&& (implMask cfgAll &&& ~~~0x008494930F09FEC0) = 0#64 := by
      rw [auMask_eq, implMask_cfgAll]
      decide
    rw [BitVec.and_assoc, hmasks]
    exact BitVec.and_zero
  rw [coldResetBits_of_no_storage rfl, BitVec.and_assoc, or_and_right, hu, coldValue_eq, implMask_cfgAll]
  decide

/-- Under CFG_MIN the UNKNOWN fields are SDD, TDOSA and TDA, and no Cold-reset field is implemented. -/
theorem coldResetBits_cfgMin (u r old : Word) : coldResetBits cfgMin u r old = u &&& 0x00010600 := by
  have hau : auMask &&& implMask cfgMin = 0x00010600 := by
    rw [auMask_eq, implMask_cfgMin]
    decide
  have hcold : coldValue &&& implMask cfgMin = 0 := by
    rw [coldValue_eq, implMask_cfgMin]
    decide
  rw [coldResetBits_of_no_storage rfl, or_and_right, BitVec.and_assoc, hau, hcold]
  exact BitVec.or_zero

/-- Settles O55: the three reset classes field by field, then the RES0 bits and the two configurations. -/
theorem resetSetsEachFieldByItsClass : Obligations.ResetSetsEachFieldByItsClass := by
  unfold Obligations.ResetSetsEachFieldByItsClass
  refine ⟨fun c u r old f himpl => ⟨fun hf => ⟨?_, ?_⟩, fun hf => ⟨?_, ?_⟩, fun v hf => ⟨?_, ?_⟩⟩,
    fun c => coldResetBits_and_res0, fun u r old => ⟨coldResetBits_cfgAll u r old, coldResetBits_cfgMin u r old⟩⟩
  · exact fieldOf_warmResetBits_of_warmZero himpl hf u r old
  · exact fieldOf_coldResetBits_of_warmZero himpl hf u r old
  · exact fieldOf_warmResetBits_of_warmUnknown himpl hf u r old
  · exact fieldOf_coldResetBits_of_warmUnknown himpl hf u r old
  · exact fieldOf_warmResetBits_of_cold himpl hf u r old
  · exact fieldOf_coldResetBits_of_cold himpl hf u r old

/-! ## The three exception enables at 0 (R161 to R164, R174, R344) -/

section Enables

variable {w : View} {a : Access}

/-- TRBEE at 0 disables TRBE Profiling exceptions and lets TRBSR_EL1 drive TRBIRQ. -/
theorem trbe_of_zero (h : w.value .TRBEE = some 0) :
    trbeMode w = some .Disabled ∧ trbeException w = false ∧ trbIrq w = some w.env.trbsr1.IRQ := by
  have hmode : trbeMode w = some .Disabled := (trbeMode_eq_some_iff .Disabled).2 h
  refine ⟨hmode, ?_, ?_⟩
  · rw [trbeException, hmode]; rfl
  · rw [trbIrq, hmode]; rfl

/-- PMSEE at 0 disables SPE Profiling exceptions and lets PMBSR_EL1 drive PMBIRQ. -/
theorem spe_of_zero (h : w.value .PMSEE = some 0) :
    speMode w = some .Disabled ∧ speException w = false ∧ pmbIrq w = some w.env.pmbsr1.S := by
  have hmode : speMode w = some .Disabled := (speMode_eq_some_iff .Disabled).2 h
  refine ⟨hmode, ?_, ?_⟩
  · rw [speException, hmode]; rfl
  · rw [pmbIrq, hmode]; rfl

/-- The trap of TRBSR_EL2 at EL2 (D16, log entry 23). -/
theorem trapTRBEE_of_zero (h : w.value .TRBEE = some 0) (hreg : a.reg.name = .TRBSR_EL2) (hel : a.el = .EL2) :
    trapTRBEE w a = some 0x18 := by
  simp [trapTRBEE, trapWhen, View.holds_iff, h, hreg, hel]

/-- The trap of PMBSR_EL2 at EL2 (D16, log entry 23). -/
theorem trapPMSEE_of_zero (h : w.value .PMSEE = some 0) (hreg : a.reg.name = .PMBSR_EL2) (hel : a.el = .EL2) :
    trapPMSEE w a = some 0x18 := by
  simp [trapPMSEE, trapWhen, View.holds_iff, h, hreg, hel]

end Enables

/-- Settles O57: each enable that acts is 0 after the reset, and acts as its value 0. -/
theorem profilingExceptionsOffAfterReset : Obligations.ProfilingExceptionsOffAfterReset := by
  unfold Obligations.ProfilingExceptionsOffAfterReset
  intro w u r old hx hbits
  have hreset : w.AfterReset := ⟨hx, u, r, old, .inl hbits⟩
  refine ⟨fun hact => ?trbee, fun hact => ?pmsee, fun hact => ?pmee⟩
  case trbee =>
    have hzero := hreset.value_eq rfl hact
    obtain ⟨hmode, hexc, hirq⟩ := trbe_of_zero hzero
    exact ⟨hzero, hmode, hexc, hirq, fun a => trapTRBEE_of_zero hzero⟩
  case pmsee =>
    have hzero := hreset.value_eq rfl hact
    obtain ⟨hmode, hexc, hirq⟩ := spe_of_zero hzero
    exact ⟨hzero, hmode, hexc, hirq, fun a => trapPMSEE_of_zero hzero⟩
  case pmee =>
    have hzero := hreset.value_eq rfl hact
    exact ⟨hzero, pmu_of_irqOnOverflow (pmeeMode_of_value hzero)⟩

/-! ## The machine after a reset -/

/-- `State.reset` holds what a Cold reset leaves, with 0 for the draws and for the old value (log entry 5). -/
theorem Stored.reset_eq_resetStored {c : Config} (h : registerExists c = true) :
    Stored.reset c = resetStored c 0 (coldResetBits c 0 0 0) :=
  (resetStored_of_exists h 0 _).symm

/-- Settles O18: no memory is listed, and a Cold reset leaves what the register can hold. -/
theorem invariantHoldsAtReset : Obligations.InvariantHoldsAtReset := by
  unfold Obligations.InvariantHoldsAtReset
  have hkept : (Stored.reset cfgAll).withinKept cfgAll := by
    rw [Stored.reset_eq_resetStored rfl]
    exact resetStored_withinKept (coldResetBits_within cfgAll 0 0 0) 0
  exact ⟨rfl, hkept, hkept⟩

/-- Settles O60: CFG_ALL's Cold reset, and the model's choices as they stand in `State.reset`. -/
theorem stateAfterReset : Obligations.StateAfterReset := by
  unfold Obligations.StateAfterReset
  exact ⟨coldResetBits_cfgAll 0 0 0, rfl, rfl, rfl, rfl, rfl, rfl, rfl⟩

/-- The bits that a Cold (`true`) or a Warm reset leaves. -/
def resetBits (cold : Bool) (c : Config) (u r old : Word) : Word :=
  if cold then coldResetBits c u r old else warmResetBits c u r old

/-- Either reset event loads its bits, of the two draws it uses up, with what the host supplies. -/
theorem hostEvent_reset (s : State) (p : ResetSupply) (cold : Bool) :
    hostEvent (if cold then .coldReset p else .warmReset p) s = .next (s.afterReset p (resetStored s.cfg s.draws
      (resetBits cold s.cfg (Config.freeWord s.draws) (Config.freeWord (s.draws + 1)) s.mdcr.bits))) := by
  cases cold <;> rfl

/-- Settles O56: either event loads its reset value where the register exists, and nothing where it does not. -/
theorem resetEventLoadsTheShadow : Obligations.ResetEventLoadsTheShadow := by
  unfold Obligations.ResetEventLoadsTheShadow
  intro s p cold
  refine ⟨_, Config.freeWord s.draws, Config.freeWord (s.draws + 1), hostEvent_reset s p cold, fun hx => ?exist,
    fun hx => ?absent, rfl, rfl, rfl, rfl, rfl, rfl, rfl, rfl⟩
  case exist =>
    rw [State.afterReset_mdcr, resetStored_of_exists hx, auMask_eq]
    exact ⟨rfl, rfl⟩
  case absent => exact resetStored_of_absent hx _ _

end Sys2Proof.Machine
end
